-- ==== Sys2Proof/Word.lean ====
section
/-! DEFINITION. The words and numbers of the part's interface: bytes of the link, sets of 24 lines, slot numbers. -/

namespace Sys2Proof

/-- One byte of a frame (R172). -/
abbrev Byte := BitVec 8

/-- A two-byte number of a frame, and a 16-bit signature (R154, R182). -/
abbrev Half := BitVec 16

/-- A set of 24 lines: bit n stands for line n, 1 means asserted or included (R182). -/
abbrev Lines := BitVec 24

/-- A slot, 0 to 7. -/
abbrev SlotNo := Fin 8

/-- A panel line or a drive line, 0 to 23. -/
abbrev LineNo := Fin 24

/-- One of the two timing engines (R45). -/
abbrev EngineNo := Fin 2

end Sys2Proof
end

