-- ==== Sys2Proof/Syntax.lean ====
section
/-! DEFINITION. The commands of the part, one constructor for each row of spec/opcode_table.json, and the
controller's requests with their fields as they stand in a frame (R183 and the layouts of 11_message_layouts.md). -/

namespace Sys2Proof

/-- The two coin inputs (R132). -/
inductive CoinInput
  | a
  | b
deriving DecidableEq, Repr

/-- The two coin meters (R147). -/
inductive MeterNo
  | one
  | two
deriving DecidableEq, Repr

/-- The two coin drives of a slot, each paired with the lockout sense of the same number (R141). -/
inductive CoinDrive
  | c1
  | c2
deriving DecidableEq, Repr

/-- What a hard reset follows (R181). -/
inductive ResetCause
  | powerOn
  | resetLine
deriving DecidableEq, Repr

/-- The profile block of SET-SLOT, 20 bytes, as sent (11_message_layouts.md). -/
structure RawProfile where
  warmUp : Half
  rest : Half
  recovery : Half
  stallLimit : Half
  settleFrames : Byte
  audioLevel : Byte
  powerPolicy : Byte
  stallPolicy : Byte
  polarity : Byte
  park : Lines
  coinDrive : Byte
  units : Byte
  onTime : Byte
  offTime : Byte
deriving DecidableEq, Repr

/-- The body of SET-OUTPUT as sent. -/
structure RawOutput where
  classes : Byte
  windowLow : Half
  windowHigh : Half
  settle : Half
  timeout : Byte
deriving DecidableEq, Repr

/-- The body of SET-CABINET as sent. -/
structure RawCabinet where
  valueA : Byte
  valueB : Byte
  pulseMin : Half
  pulseMax : Half
  bankLimit : Byte
  meterA : Byte
  meterB : Byte
  meterOn : Byte
  meterOff : Byte
  dipLevel : Byte
deriving DecidableEq, Repr

/-- The body of SET-CHORD as sent. -/
structure RawChord where
  count : Byte
  line0 : Byte
  line1 : Byte
  line2 : Byte
  line3 : Byte
  hold : Half
deriving DecidableEq, Repr

/-- One of the four step places of SLOT-WORK as sent: the kind code and the five parameter bytes, the first of
them the most significant. -/
structure RawStep where
  kind : Byte
  params : BitVec 40
deriving DecidableEq, Repr

/-- A request's kind and body. `unknown` is a frame whose kind names no request and `badLength` one whose body
is not of its kind's fixed length (R175, R183). -/
inductive ReqOp
  | status
  | notify (set : Byte)
  | restart
  | setOutput (r : RawOutput)
  | setCabinet (r : RawCabinet)
  | setSlot (slot : Byte) (flag : Byte) (p : RawProfile)
  | setMap (slot : Byte) (sources : Vector Byte 24)
  | setTrim (slot : Byte) (level : Byte)
  | setChord (r : RawChord)
  | slotWork (slot : Byte) (count : Byte) (steps : Vector RawStep 4)
  | abortWork (slot : Byte)
  | select (slot : Byte)
  | cancel
  | capture (setting : Byte)
  | credit (action : Byte) (n : Byte)
  | querySlot (slot : Byte)
  | queryOutput
  | queryCoin
  | queryTest (part : Byte)
  | clearDip
  | unknown (kind : Byte) (body : List Byte)
  | badLength (kind : Byte) (body : List Byte)
deriving DecidableEq, Repr

/-- A request: the tag its reply returns, and what it asks (R172, R175). -/
structure Request where
  tag : Byte
  op : ReqOp
deriving DecidableEq, Repr

/-- An edge of a slot's line sync input as it leaves the tap's delay: the level it goes to, and whether the tap reports
a frame pulse in the same tick, before this command or after it, whose frame the line then opens (R42, R52, log 32). -/
structure LineEdge where
  slot : SlotNo
  high : Bool
  opens : Bool
deriving DecidableEq, Repr

/-- An edge of a slot's frame sync input as it leaves the tap's delay: the level it goes to, and the ticks the input stays
there (R42, log 32). -/
structure FrameEdge where
  slot : SlotNo
  high : Bool
  width : Nat
deriving DecidableEq, Repr

/-- The commands. `dt` is the number of 48 MHz ticks since the command before (log 1). A slot, level or setting
of a request stands as the byte sent, so that the refusals BAD_SLOT and BAD_VALUE are within reach. -/
inductive Instr
  -- requests taken by the link
  | status (dt : Nat) (tag : Byte)
  | notify (dt : Nat) (tag : Byte) (set : Byte)
  | restart (dt : Nat) (tag : Byte)
  | restartTaken (dt : Nat)
  | setOutput (dt : Nat) (tag : Byte) (r : RawOutput)
  | setCabinet (dt : Nat) (tag : Byte) (r : RawCabinet)
  | setSlot (dt : Nat) (tag : Byte) (slot : Byte) (p : RawProfile)
  | setSlotDisable (dt : Nat) (tag : Byte) (slot : Byte)
  | setMap (dt : Nat) (tag : Byte) (slot : Byte) (sources : Vector Byte 24)
  | setTrim (dt : Nat) (tag : Byte) (slot : Byte) (level : Byte)
  | setChord (dt : Nat) (tag : Byte) (r : RawChord)
  | slotWork (dt : Nat) (tag : Byte) (slot : Byte) (count : Byte) (steps : Vector RawStep 4)
  | abortWork (dt : Nat) (tag : Byte) (slot : Byte)
  | select (dt : Nat) (tag : Byte) (slot : Byte)
  | cancel (dt : Nat) (tag : Byte)
  | capture (dt : Nat) (tag : Byte) (setting : Byte)
  | creditAdd (dt : Nat) (tag : Byte) (n : Byte)
  | creditClear (dt : Nat) (tag : Byte)
  | querySlot (dt : Nat) (tag : Byte) (slot : Byte)
  | queryOutput (dt : Nat) (tag : Byte)
  | queryCoin (dt : Nat) (tag : Byte)
  | queryTest (dt : Nat) (tag : Byte) (part : Byte)
  | clearDip (dt : Nat) (tag : Byte)
  | unknownKind (dt : Nat) (kind : Byte) (tag : Byte) (body : List Byte)
  -- the link and the resets
  | receiveByte (dt : Nat) (b : Byte)
  | messageSent (dt : Nat)
  | heldCompletionQueued (dt : Nat)
  | resetLineHeld (dt : Nat)
  | hardReset (dt : Nat) (cause : ResetCause)
  -- slots, board power and work
  | pauseEnd (dt : Nat) (slot : SlotNo)
  | warmUpEnd (dt : Nat) (slot : SlotNo)
  | restTimerEnd (dt : Nat) (slot : SlotNo)
  | powerTrip (dt : Nat) (slot : SlotNo)
  | supplyDip (dt : Nat)
  -- sync timing; `lineLow` and `frameLow` are the ticks of the window each input spent at the lower level
  | linePulse (dt : Nat) (edge : LineEdge)
  | framePulse (dt : Nat) (edge : FrameEdge)
  | pulseLevelWindowEnd (dt : Nat) (slot : SlotNo) (lineLow : Nat) (frameLow : Nat)
  | probeFrameWatchEnd (dt : Nat) (engine : EngineNo)
  | linePeriodOverflow (dt : Nat) (engine : EngineNo)
  -- the output path
  | bridgeFrameStart (dt : Nat)
  | audioStep (dt : Nat)
  | watchFrameTimerEnd (dt : Nat)
  | holdTimerExpiry (dt : Nat)
  -- changeover
  | bridgeStageTimerEnd (dt : Nat)
  | prepareTimeout (dt : Nat)
  | classSettleDeadline (dt : Nat)
  | alignTimeout (dt : Nat)
  | settleFrameTimerEnd (dt : Nat)
  -- player controls
  | panelChange (dt : Nat) (line : LineNo) (asserted : Bool)
  | chordHoldTimerEnd (dt : Nat)
  -- coins; `high` is the electrical level of the sense input
  | coinSwitchChange (dt : Nat) (input : CoinInput) (closed : Bool)
  | coinPulseMaximum (dt : Nat) (input : CoinInput)
  | lockoutSenseChange (dt : Nat) (slot : SlotNo) (sense : CoinDrive) (high : Bool)
  | payoutOnTimeEnd (dt : Nat)
  | payoutOffTimeEnd (dt : Nat)
  | meterOnEnd (dt : Nat) (meter : MeterNo)
  | meterOffEnd (dt : Nat) (meter : MeterNo)
  -- harness test and picture; `senses` has bit n set where the sense comparator of line n reads high
  | harnessPatternEnd (dt : Nat) (senses : Lines)
  | gridPointSample (dt : Nat) (red : Bool) (green : Bool) (blue : Bool)
deriving DecidableEq, Repr

/-- The ticks that pass before a command (log 1). -/
def Instr.dt : Instr → Nat
  | .status dt _ | .notify dt _ _ | .restart dt _ | .restartTaken dt | .setOutput dt _ _ | .setCabinet dt _ _
  | .setSlot dt _ _ _ | .setSlotDisable dt _ _ | .setMap dt _ _ _ | .setTrim dt _ _ _ | .setChord dt _ _
  | .slotWork dt _ _ _ _ | .abortWork dt _ _ | .select dt _ _ | .cancel dt _ | .capture dt _ _ | .creditAdd dt _ _
  | .creditClear dt _ | .querySlot dt _ _ | .queryOutput dt _ | .queryCoin dt _ | .queryTest dt _ _ | .clearDip dt _
  | .unknownKind dt _ _ _ | .receiveByte dt _ | .messageSent dt | .heldCompletionQueued dt | .resetLineHeld dt
  | .hardReset dt _ | .pauseEnd dt _ | .warmUpEnd dt _ | .restTimerEnd dt _ | .powerTrip dt _ | .supplyDip dt
  | .linePulse dt _ | .framePulse dt _ | .pulseLevelWindowEnd dt _ _ _ | .probeFrameWatchEnd dt _
  | .linePeriodOverflow dt _ | .bridgeFrameStart dt | .audioStep dt | .watchFrameTimerEnd dt | .holdTimerExpiry dt
  | .bridgeStageTimerEnd dt | .prepareTimeout dt | .classSettleDeadline dt | .alignTimeout dt
  | .settleFrameTimerEnd dt | .panelChange dt _ _ | .chordHoldTimerEnd dt | .coinSwitchChange dt _ _
  | .coinPulseMaximum dt _ | .lockoutSenseChange dt _ _ _ | .payoutOnTimeEnd dt | .payoutOffTimeEnd dt
  | .meterOnEnd dt _ | .meterOffEnd dt _ | .harnessPatternEnd dt _ | .gridPointSample dt _ _ _ => dt

end Sys2Proof
end

