-- ==== Sys2Proof/WellFormed.lean ====
section
/-! DEFINITION. What makes a command well formed: the limits the spec puts on what can reach the part. -/

namespace Sys2Proof

/-- The request kinds of 11_message_layouts.md, 01h to 14h (R175, R183). -/
def kindIsRequest (kind : Byte) : Bool := decide (1 ≤ kind.toNat ∧ kind.toNat ≤ 20)

/-- The fixed body length of each request kind (R183); 0 for a kind that names no request. -/
def bodyLength (kind : Byte) : Nat :=
  [0, 0, 1, 0, 8, 12, 22, 25, 2, 7, 26, 1, 1, 0, 1, 2, 1, 0, 0, 1, 0].getD kind.toNat 0

/-- A body has at most 62 bytes (R172). -/
def bodyFits (body : List Byte) : Bool := decide (body.length ≤ 62)

/-- A request as it can come out of a good frame: `unknown` only for a kind that names no request, `badLength` only
for a request kind with a body of another length (R175). -/
def ReqOp.wf : ReqOp → Bool
  | .unknown kind body => !kindIsRequest kind && bodyFits body
  | .badLength kind body => kindIsRequest kind && decide (body.length ≠ bodyLength kind) && bodyFits body
  | _ => true

/-- The length of a tap's pulse-level window in ticks (R43). -/
def windowTicks : Nat := 1048576

/-- A well-formed command. A frame of UNKNOWN_KIND carries a kind that names no request or a body of the wrong
length, and fits a frame (R172, R175); a tap's window is 1,048,576 ticks long (R43). Every other operand is in range
by its type. -/
def Instr.wf : Instr → Bool
  | .unknownKind _ kind _ body =>
      bodyFits body && (!kindIsRequest kind || decide (body.length ≠ bodyLength kind))
  | .pulseLevelWindowEnd _ _ lineLow frameLow => decide (lineLow ≤ windowTicks ∧ frameLow ≤ windowTicks)
  | _ => true

end Sys2Proof
end

