-- ==== Sys2Proof/Decode.lean ====
section
/-! DEFINITION. Reading a request out of a good frame's kind and body, and writing one into a frame (R172, R182,
R183). The opcode table gives its rows no bits, so decodeTableWord spells no command. -/

namespace Sys2Proof

/-- The command a word of the opcode table spells: the table gives no row bits, so none (log 5). -/
def decodeTableWord (_nbits _w : Nat) : Option Instr := none

/-! ## Numbers in a frame: most significant byte first (R182) -/

/-- The high byte of a two-byte number. -/
def hi8 (h : Half) : Byte := h.extractLsb' 8 8

/-- The low byte of a two-byte number. -/
def lo8 (h : Half) : Byte := h.extractLsb' 0 8

/-- A two-byte number from its bytes, most significant first. -/
def half (hi lo : Byte) : Half := hi ++ lo

/-- A set of lines as three bytes, most significant first. -/
def lineBytes (l : Lines) : List Byte := [l.extractLsb' 16 8, l.extractLsb' 8 8, l.extractLsb' 0 8]

/-- A set of lines from its three bytes. -/
def linesOf (a b c : Byte) : Lines := a ++ b ++ c

/-- The five parameter bytes of a step place, first byte most significant. -/
def paramBytes (p : BitVec 40) : List Byte :=
  [p.extractLsb' 32 8, p.extractLsb' 24 8, p.extractLsb' 16 8, p.extractLsb' 8 8, p.extractLsb' 0 8]

/-- The parameter bytes of a step place from its five bytes. -/
def paramsOf (a b c d e : Byte) : BitVec 40 := a ++ b ++ c ++ d ++ e

/-- The six bytes of one step place of SLOT-WORK. -/
def RawStep.bytes (r : RawStep) : List Byte := r.kind :: paramBytes r.params

/-- The 20 bytes of a profile block. -/
def RawProfile.bytes (p : RawProfile) : List Byte :=
  [hi8 p.warmUp, lo8 p.warmUp, hi8 p.rest, lo8 p.rest, hi8 p.recovery, lo8 p.recovery,
   hi8 p.stallLimit, lo8 p.stallLimit, p.settleFrames, p.audioLevel, p.powerPolicy, p.stallPolicy, p.polarity]
  ++ lineBytes p.park ++ [p.coinDrive, p.units, p.onTime, p.offTime]

/-- A profile block from its 20 bytes. -/
def profileOf : List Byte → Option RawProfile
  | [w1, w0, r1, r0, v1, v0, s1, s0, settle, audio, power, stall, pol, k2, k1, k0, drive, units, on, off] =>
      some { warmUp := half w1 w0, rest := half r1 r0, recovery := half v1 v0, stallLimit := half s1 s0,
             settleFrames := settle, audioLevel := audio, powerPolicy := power, stallPolicy := stall,
             polarity := pol, park := linesOf k2 k1 k0, coinDrive := drive, units := units, onTime := on,
             offTime := off }
  | _ => none

/-- A vector of exactly `n` elements out of a list, if the list has that length. -/
def vectorOf {α : Type} (n : Nat) (l : List α) : Option (Vector α n) :=
  if h : l.length = n then some (Vector.mk l.toArray (by simpa using h)) else none

/-- One step place from six bytes of a body. -/
def stepOf : List Byte → Option RawStep
  | [k, a, b, c, d, e] => some ⟨k, paramsOf a b c d e⟩
  | _ => none

/-- The four step places from the 24 bytes that hold them. -/
def stepsOf (l : List Byte) : Option (Vector RawStep 4) :=
  match stepOf (l.take 6), stepOf ((l.drop 6).take 6), stepOf ((l.drop 12).take 6), stepOf (l.drop 18) with
  | some a, some b, some c, some d => some #v[a, b, c, d]
  | _, _, _, _ => none

/-! ## Requests -/

/-- The kind byte of a request (11_message_layouts.md, Request kinds and bodies). -/
def ReqOp.kind : ReqOp → Byte
  | .status => 0x01
  | .notify _ => 0x02
  | .restart => 0x03
  | .setOutput _ => 0x04
  | .setCabinet _ => 0x05
  | .setSlot _ _ _ => 0x06
  | .setMap _ _ => 0x07
  | .setTrim _ _ => 0x08
  | .setChord _ => 0x09
  | .slotWork _ _ _ => 0x0A
  | .abortWork _ => 0x0B
  | .select _ => 0x0C
  | .cancel => 0x0D
  | .capture _ => 0x0E
  | .credit _ _ => 0x0F
  | .querySlot _ => 0x10
  | .queryOutput => 0x11
  | .queryCoin => 0x12
  | .queryTest _ => 0x13
  | .clearDip => 0x14
  | .unknown kind _ => kind
  | .badLength kind _ => kind

/-- The body bytes of a request, fields in the order of its layout (R183). -/
def ReqOp.body : ReqOp → List Byte
  | .status => []
  | .notify set => [set]
  | .restart => []
  | .setOutput r =>
      [r.classes, hi8 r.windowLow, lo8 r.windowLow, hi8 r.windowHigh, lo8 r.windowHigh, hi8 r.settle, lo8 r.settle,
       r.timeout]
  | .setCabinet r =>
      [r.valueA, r.valueB, hi8 r.pulseMin, lo8 r.pulseMin, hi8 r.pulseMax, lo8 r.pulseMax, r.bankLimit, r.meterA,
       r.meterB, r.meterOn, r.meterOff, r.dipLevel]
  | .setSlot slot flag p => slot :: flag :: p.bytes
  | .setMap slot sources => slot :: sources.toList
  | .setTrim slot level => [slot, level]
  | .setChord r => [r.count, r.line0, r.line1, r.line2, r.line3, hi8 r.hold, lo8 r.hold]
  | .slotWork slot count steps =>
      slot :: count :: (steps[0].bytes ++ steps[1].bytes ++ steps[2].bytes ++ steps[3].bytes)
  | .abortWork slot => [slot]
  | .select slot => [slot]
  | .cancel => []
  | .capture setting => [setting]
  | .credit action n => [action, n]
  | .querySlot slot => [slot]
  | .queryOutput => []
  | .queryCoin => []
  | .queryTest part => [part]
  | .clearDip => []
  | .unknown _ body => body
  | .badLength _ body => body

/-- The request of a kind whose body is empty. -/
def noBody (op : ReqOp) : List Byte → Option ReqOp
  | [] => some op
  | _ => none

/-- The request of a kind whose body is one byte. -/
def oneByte (op : Byte → ReqOp) : List Byte → Option ReqOp
  | [a] => some (op a)
  | _ => none

/-- The request of a kind whose body is two bytes. -/
def twoBytes (op : Byte → Byte → ReqOp) : List Byte → Option ReqOp
  | [a, b] => some (op a b)
  | _ => none

/-- SET-OUTPUT's fields from its eight bytes. -/
def readOutput : List Byte → Option ReqOp
  | [c, l1, l0, h1, h0, s1, s0, t] =>
      some (.setOutput { classes := c, windowLow := half l1 l0, windowHigh := half h1 h0, settle := half s1 s0,
                         timeout := t })
  | _ => none

/-- SET-CABINET's fields from its twelve bytes. -/
def readCabinet : List Byte → Option ReqOp
  | [vA, vB, n1, n0, x1, x0, limit, mA, mB, on, off, dip] =>
      some (.setCabinet { valueA := vA, valueB := vB, pulseMin := half n1 n0, pulseMax := half x1 x0,
                          bankLimit := limit, meterA := mA, meterB := mB, meterOn := on, meterOff := off,
                          dipLevel := dip })
  | _ => none

/-- SET-SLOT's fields from its 22 bytes. -/
def readSlot : List Byte → Option ReqOp
  | slot :: flag :: rest => (profileOf rest).map (.setSlot slot flag)
  | _ => none

/-- SET-MAP's fields from its 25 bytes. -/
def readMap : List Byte → Option ReqOp
  | slot :: rest => (vectorOf 24 rest).map (.setMap slot)
  | _ => none

/-- SET-CHORD's fields from its seven bytes. -/
def readChord : List Byte → Option ReqOp
  | [n, a, b, c, d, t1, t0] =>
      some (.setChord { count := n, line0 := a, line1 := b, line2 := c, line3 := d, hold := half t1 t0 })
  | _ => none

/-- SLOT-WORK's fields from its 26 bytes. -/
def readWork : List Byte → Option ReqOp
  | slot :: count :: rest => (stepsOf rest).map (.slotWork slot count)
  | _ => none

/-- How the body of each request kind is read; none for a kind that names no request (R175, R183). -/
def reader (kind : Byte) : Option (List Byte → Option ReqOp) :=
  match kind.toNat with
  | 0x01 => some (noBody .status)
  | 0x02 => some (oneByte .notify)
  | 0x03 => some (noBody .restart)
  | 0x04 => some readOutput
  | 0x05 => some readCabinet
  | 0x06 => some readSlot
  | 0x07 => some readMap
  | 0x08 => some (twoBytes .setTrim)
  | 0x09 => some readChord
  | 0x0A => some readWork
  | 0x0B => some (oneByte .abortWork)
  | 0x0C => some (oneByte .select)
  | 0x0D => some (noBody .cancel)
  | 0x0E => some (oneByte .capture)
  | 0x0F => some (twoBytes .credit)
  | 0x10 => some (oneByte .querySlot)
  | 0x11 => some (noBody .queryOutput)
  | 0x12 => some (noBody .queryCoin)
  | 0x13 => some (oneByte .queryTest)
  | 0x14 => some (noBody .clearDip)
  | _ => none

/-- The request in a good frame (R175): a kind that names no request, then a body of the wrong length, then the
request of that kind. -/
def decodeRequest (kind : Byte) (body : List Byte) : ReqOp :=
  match reader kind with
  | none => .unknown kind body
  | some read => (read body).getD (.badLength kind body)

/-! ## Frames -/

/-- The sum of bytes modulo 256 (R172). -/
def byteSum (l : List Byte) : Byte := l.foldl (· + ·) 0

/-- The check byte of a frame: it makes the sum of length, kind, tag, body and check 0 modulo 256 (R172). -/
def checkByte (kind tag : Byte) (body : List Byte) : Byte :=
  -(byteSum (BitVec.ofNat 8 (body.length + 2) :: kind :: tag :: body))

/-- A frame's bytes: start A5h, length, kind, tag, body, check (R172). -/
def frameBytes (kind tag : Byte) (body : List Byte) : List Byte :=
  0xA5 :: BitVec.ofNat 8 (body.length + 2) :: kind :: tag :: (body ++ [checkByte kind tag body])

/-- The frame that carries a request. -/
def Request.frame (r : Request) : List Byte := frameBytes r.op.kind r.tag r.op.body

/-- A profile block whose bytes are not read, as SET-SLOT carries it with its disable flag set (R183). -/
def unreadProfile : RawProfile :=
  { warmUp := 0, rest := 0, recovery := 0, stallLimit := 0, settleFrames := 0, audioLevel := 0, powerPolicy := 0,
    stallPolicy := 0, polarity := 0, park := 0, coinDrive := 0, units := 0, onTime := 0, offTime := 0 }

/-- The request a command stands for; none for a command that is an event (log 6). -/
def Instr.request : Instr → Option Request
  | .status _ tag => some ⟨tag, .status⟩
  | .notify _ tag set => some ⟨tag, .notify set⟩
  | .restart _ tag => some ⟨tag, .restart⟩
  | .setOutput _ tag r => some ⟨tag, .setOutput r⟩
  | .setCabinet _ tag r => some ⟨tag, .setCabinet r⟩
  | .setSlot _ tag slot p => some ⟨tag, .setSlot slot 0 p⟩
  | .setSlotDisable _ tag slot => some ⟨tag, .setSlot slot 1 unreadProfile⟩
  | .setMap _ tag slot sources => some ⟨tag, .setMap slot sources⟩
  | .setTrim _ tag slot level => some ⟨tag, .setTrim slot level⟩
  | .setChord _ tag r => some ⟨tag, .setChord r⟩
  | .slotWork _ tag slot count steps => some ⟨tag, .slotWork slot count steps⟩
  | .abortWork _ tag slot => some ⟨tag, .abortWork slot⟩
  | .select _ tag slot => some ⟨tag, .select slot⟩
  | .cancel _ tag => some ⟨tag, .cancel⟩
  | .capture _ tag setting => some ⟨tag, .capture setting⟩
  | .creditAdd _ tag n => some ⟨tag, .credit 0 n⟩
  | .creditClear _ tag => some ⟨tag, .credit 1 0⟩
  | .querySlot _ tag slot => some ⟨tag, .querySlot slot⟩
  | .queryOutput _ tag => some ⟨tag, .queryOutput⟩
  | .queryCoin _ tag => some ⟨tag, .queryCoin⟩
  | .queryTest _ tag part => some ⟨tag, .queryTest part⟩
  | .clearDip _ tag => some ⟨tag, .clearDip⟩
  | .unknownKind _ kind tag body => some ⟨tag, decodeRequest kind body⟩
  | .restartTaken _ | .receiveByte _ _ | .messageSent _ | .heldCompletionQueued _ | .resetLineHeld _
  | .hardReset _ _ | .pauseEnd _ _ | .warmUpEnd _ _ | .restTimerEnd _ _ | .powerTrip _ _ | .supplyDip _
  | .linePulse _ _ | .framePulse _ _ | .pulseLevelWindowEnd _ _ _ _ | .probeFrameWatchEnd _ _
  | .linePeriodOverflow _ _ | .bridgeFrameStart _ | .audioStep _ | .watchFrameTimerEnd _ | .holdTimerExpiry _
  | .bridgeStageTimerEnd _ | .prepareTimeout _ | .classSettleDeadline _ | .alignTimeout _
  | .settleFrameTimerEnd _ | .panelChange _ _ _ | .chordHoldTimerEnd _ | .coinSwitchChange _ _ _
  | .coinPulseMaximum _ _ | .lockoutSenseChange _ _ _ _ | .payoutOnTimeEnd _ | .payoutOffTimeEnd _
  | .meterOnEnd _ _ | .meterOffEnd _ _ | .harnessPatternEnd _ _ | .gridPointSample _ _ _ _ => none

end Sys2Proof
end

