-- ==== Sys2Proof/Config.lean ====
section
/-! DEFINITION. What the part fixes once and for all, and the one value the spec leaves open. -/

namespace Sys2Proof.Config

/-- Ticks of the 48 MHz reference clock in one millisecond (00_scope.md, Terms: tick). -/
def ticksPerMs : Nat := 48000

/-- FREE VALUE (log 4). Whether a remaining time of this many ticks, when it is no whole number of ms, is
reported as the next whole ms (true) or the one below (false): R22, R115 and R149 report remaining times in ms
and state no rounding. -/
opaque remainingRoundsUp : Nat → Bool

/-- DESIGN CHOICE (log 18). The most internal tasks one event may unfold into; what would be left stays in
State.todo. -/
def cascadeBound : Nat := 4096

/-- The ticks of a tap's delay, and the least width of a pulse that is a frame pulse (R42). -/
def tapDelay : Nat := 401

/-- The receive buffer's size in bytes (R173). -/
def rxSize : Nat := 256

/-- The transmit places kept for replies, COMPLETION notices and START-UP (R176). -/
def groupPlaces : Nat := 18

end Sys2Proof.Config
end

