-- ==== Sys2Proof/Machine/State.lean ====
section
/-! DEFINITION. The state of the part, block by block, and its value right after a hard reset by power-on. A timer is
held as the clock tick of its end, none while stopped (log 1). -/

namespace Sys2Proof.Machine

/-! ## Names -/

/-- Step results, fault reasons and SELECT outcomes: one code space (R182). -/
inductive Result
  | ok
  | noVsync
  | noHsync
  | linesOver
  | outOfRange
  | harnessFail
  | powerTrip
  | notPowered
  | inUse
  | aborted
  | syncLost
  | timingChanged
  | alignTimeout
  | settleLost
  | superseded
  | cancelled
  | prepareFailed
  | prepareTimeout
  | monitorRejects
deriving DecidableEq, Repr

/-- Probe verdicts (R62). -/
inductive Verdict
  | good
  | noVsync
  | noHsync
  | linesOver
  | outOfRange
deriving DecidableEq, Repr

/-- Scan classes (R60); the class output never holds `out`. -/
inductive ScanClass
  | low
  | medium
  | high
  | out
deriving DecidableEq, Repr

/-- The eleven states of a slot (R6). -/
inductive SlotState
  | unconfigured
  | off
  | resting
  | waiting
  | starting
  | warm
  | probing
  | ready
  | active
  | testing
  | fault
deriving DecidableEq, Repr

/-- What is done with an outgoing board (R2, R19). -/
inductive PowerPolicy
  | keep
  | shed
deriving DecidableEq, Repr

/-- What is done with a stalled board (R2, R156). -/
inductive StallPolicy
  | notify
  | restart
deriving DecidableEq, Repr

/-- The level a slot's drive lines are asserted at (R118). -/
inductive Polarity
  | lowAssert
  | highAssert
deriving DecidableEq, Repr

/-! ## Slot Table -/

/-- A coin profile (R2, R141); times in ms. -/
structure CoinProfile where
  drive : CoinDrive
  units : Nat
  onTime : Nat
  offTime : Nat
deriving DecidableEq, Repr

/-- A slot's profile as stored (R2); times in ms. -/
structure Profile where
  warmUp : Nat
  rest : Nat
  policy : PowerPolicy
  settleFrames : Nat
  audioLevel : Nat
  recovery : Nat
  stallLimit : Nat
  stallPolicy : StallPolicy
  polarity : Polarity
  park : Lines
  coin : Option CoinProfile
deriving DecidableEq, Repr

/-- One entry of an input map (R121). -/
inductive MapSource
  | panel (n : LineNo)
  | released
  | asserted
deriving DecidableEq, Repr

/-- An input map: entry n is the source of drive line n (R121). -/
abbrev InputMap := Vector MapSource 24

/-- What SET-SLOT gives a slot: present exactly while the slot is configured (R1, R3, R5). -/
structure Setup where
  profile : Profile
  map : InputMap
deriving DecidableEq, Repr

/-- The figures a completed probe derives (R56 to R60). -/
structure Derived where
  lineRate : Nat
  lineTicks : Nat
  frameLines : Nat
  frameRate : Nat
  interlaced : Bool
  cls : ScanClass
deriving DecidableEq, Repr

/-- A probe result record (R62); `periods` is the line periods completed, present when T256 is not. -/
structure ProbeRecord where
  verdict : Verdict
  t256 : Option Nat
  periods : Option Nat
  countA : Option Nat
  countB : Option Nat
  derived : Option Derived
deriving DecidableEq, Repr

/-- A slot's record (R1). `restWaiting` is the mark of a power-on that waits on the rest timer (R7), `probeReturn`
the state before PROBING (R15), `faultAtEnd` the SYNC_LOST fault to be entered when the running step or test ends
(R160). -/
structure Slot where
  setup : Option Setup
  state : SlotState
  power : Bool
  rest : Option Nat
  restWaiting : Bool
  warm : Option Nat
  lastProbe : Option ProbeRecord
  lastFault : Option Result
  testReturn : Option SlotState
  probeReturn : Option SlotState
  shedPending : Bool
  restartUnderWay : Bool
  faultAtEnd : Bool
deriving DecidableEq, Repr

/-! ## Power Supervisor -/

/-- The start permit, its wait list, the supply-dip mark and the dip threshold level (R8, R20). -/
structure Supply where
  permit : Option SlotNo
  waitList : List SlotNo
  dip : Bool
  level : Nat
deriving DecidableEq, Repr

/-! ## Work Runner -/

/-- One step with its stored parameters (R26). -/
inductive WorkStep
  | powerOn
  | powerOff
  | probe
  | harness (seed : Lines) (count : Nat)
  | pause (ms : Nat)
deriving DecidableEq, Repr

/-- Who placed an entry (R25, R26). -/
inductive EntryKind
  | controller (tag : Byte)
  | prepare
  | restart
deriving DecidableEq, Repr

/-- An entry: its steps, how many have ended OK, the waiver of the IN_USE check (R39, R40) and the mark for removal
(R38). -/
structure Entry where
  kind : EntryKind
  steps : List WorkStep
  done : Nat
  waiver : Bool
  marked : Bool
deriving DecidableEq, Repr

/-- Where the running entry stands: the oldest controller entry, or the reserved output place (R27). -/
inductive Runner
  | controller
  | output
deriving DecidableEq, Repr

/-- A slot's work queue (R25); `pauseEnd` is the timer of a running PAUSE step (R29). -/
structure Queue where
  ctrl : List Entry
  out : Option Entry
  running : Option Runner
  pauseEnd : Option Nat
deriving DecidableEq, Repr

/-! ## Timing Unit -/

/-- Pulse levels of a tap's two inputs, true for the higher level (R43), the levels at which the two delayed inputs stand
(R42, R67, log 32), and the ticks of its last pulses (log 3). -/
structure Tap where
  linePulseHigh : Bool
  framePulseHigh : Bool
  lineHigh : Bool
  frameHigh : Bool
  lastLine : Option Nat
  lastFrame : Option Nat
deriving DecidableEq, Repr

/-- Who asks for a probe (R46). -/
inductive ReqKind
  | work
  | output
deriving DecidableEq, Repr

/-- A probe request (R46). -/
structure ProbeRequest where
  kind : ReqKind
  slot : SlotNo
deriving DecidableEq, Repr

/-- The frame phase of a probe (R45). -/
inductive FramePhase
  | awaitFirst
  | countA
  | countB
  | framesDone
deriving DecidableEq, Repr

/-- The line-period count of a probe; `running` holds the periods completed and the tick it started (R45, R51). -/
inductive LinePeriod
  | notStarted
  | running (periods : Nat) (start : Nat)
  | done (t256 : Nat)
deriving DecidableEq, Repr

/-- An engine's measurement record (R45). The frame watch has run since `watchFrom`. `opening`: the last line pulse opens the
frame of a frame pulse that is still to be taken in its tick, and is in neither count (R52, log 3). -/
structure Measure where
  req : ProbeRequest
  phase : FramePhase
  watchFrom : Nat
  firstAt : Option Nat
  line : LinePeriod
  countA : Option Nat
  countB : Option Nat
  opening : Bool
  released : Bool
deriving DecidableEq, Repr

/-! ## Output Path -/

/-- The four output modes (R66). -/
inductive Mode
  | dark
  | changing
  | showing
  | holding
deriving DecidableEq, Repr

/-- Where the monitor's sync comes from (R67). -/
inductive SyncSource
  | bridge
  | slot (i : SlotNo)
deriving DecidableEq, Repr

/-- A bridge timing: line length in ticks, frame length in lines (R68). -/
structure BridgeTiming where
  ticks : Nat
  lines : Nat
deriving DecidableEq, Repr

/-- The two forms of HOLDING (R79, R157). -/
inductive HoldForm
  | loss
  | restart
deriving DecidableEq, Repr

/-- The stages of a rejoin (R83). -/
inductive RejoinStage
  | align
  | settle
deriving DecidableEq, Repr

/-- What ALIGN and SETTLE count, in a changeover and in a rejoin (R83, R88, R101, R103): whether the first counted
frame has opened, the align count, the settle count with the settle frames it runs to, and the stage timer. -/
structure Cut where
  opened : Bool
  alignCount : Nat
  settleCount : Nat
  settleFrames : Nat
  timer : Option Nat
deriving DecidableEq, Repr

/-- The hold fields (R65). `probing`: HOLDING looks for the board by OUTPUT probes (R81, R83). `awaitReady`: the held
slot's return to READY is awaited (R158, R159). `stalledAt`, the model's own: the tick at which a stall entered the RESTART
form, for a power trip of that instant (R161). -/
structure Hold where
  timer : Option Nat
  form : Option HoldForm
  rejoin : Option RejoinStage
  cut : Cut
  probing : Bool
  awaitReady : Bool
  stalledAt : Option Nat
deriving DecidableEq, Repr

/-- The watch of the showing slot (R77); its frame timer is stopped while the output is not SHOWING. -/
structure Watch where
  lineCount : Nat
  irregular : Nat
  timer : Option Nat
deriving DecidableEq, Repr

/-- The output record (R65). `timing` is the programmed bridge timing, `current` the one the running bridge frame
began with, `frameStart` the tick at which it began (R69). -/
structure Output where
  mode : Mode
  source : Option SlotNo
  sourceProbe : Option ProbeRecord
  sync : SyncSource
  blanked : Bool
  timing : BridgeTiming
  current : BridgeTiming
  frameStart : Nat
  classOut : ScanClass
  gain : Nat
  target : Nat
  stagedMap : Option InputMap
  stagedLevel : Option Nat
  watch : Watch
  hold : Hold
deriving DecidableEq, Repr

/-- The output settings (R72): accepted classes, frame window in cHz, class settle in ms, prepare timeout in s. -/
structure OutSettings where
  acceptLow : Bool
  acceptMedium : Bool
  acceptHigh : Bool
  windowLow : Nat
  windowHigh : Nat
  settle : Nat
  timeout : Nat
deriving DecidableEq, Repr

/-! ## Changeover Sequencer -/

/-- The stages of a changeover (R88). -/
inductive Stage
  | fade
  | bridge
  | prepare
  | reclass
  | align
  | settle
deriving DecidableEq, Repr

/-- What a SELECT asks for: a slot, or none for NONE, under its tag (R89). -/
structure Selection where
  slot : Option SlotNo
  tag : Byte
deriving DecidableEq, Repr

/-- The changeover record (R88). `toSlot` none is NONE. `cut.timer` is the stage timer. `starts` counts the bridge
frame starts of a RECLASS that waits without a class change (R100). -/
structure Change where
  fromSlot : Option SlotNo
  toSlot : Option SlotNo
  tag : Byte
  stage : Stage
  cut : Cut
  timeout : Nat
  prepareTimer : Option Nat
  settle : Nat
  targetProbe : Option ProbeRecord
  starts : Option Nat
  reselect : Option Selection
deriving DecidableEq, Repr

/-! ## Control Router -/

/-- The chord's states (R128). -/
inductive ChordState
  | idle
  | timing
  | latched
deriving DecidableEq, Repr

/-- The panel state, the capture flag and the chord record (R117, R125, R128); the hold time is in ms. The state
`idle` is the spec's OPEN. -/
structure Controls where
  panel : Lines
  capture : Bool
  chordLines : List LineNo
  holdTime : Nat
  chord : ChordState
  chordEnd : Option Nat
deriving DecidableEq, Repr

/-! ## Coin Unit -/

/-- The cabinet coin settings (R133); times in ms. -/
structure CoinSettings where
  valueA : Nat
  valueB : Nat
  pulseMin : Nat
  pulseMax : Nat
  bankLimit : Nat
  meterA : Option MeterNo
  meterB : Option MeterNo
  meterOn : Nat
  meterOff : Nat
deriving DecidableEq, Repr

/-- A coin input's closure states; `idle` is the spec's OPEN (R132, R134). -/
inductive Closure
  | idle
  | timing
  | jam
deriving DecidableEq, Repr

/-- A coin input record: the closure state, the tick the closure began, and the switch's level (R132, R134). -/
structure CoinIn where
  state : Closure
  since : Nat
  closed : Bool
deriving DecidableEq, Repr

/-- The coin record totals, 32-bit counts that wrap (R132). -/
structure Totals where
  coinsA : BitVec 32
  coinsB : BitVec 32
  accepted : BitVec 32
  added : BitVec 32
  paid : BitVec 32
  cleared : BitVec 32
  lost : BitVec 32
  jamsA : BitVec 32
  jamsB : BitVec 32
  noiseA : BitVec 32
  noiseB : BitVec 32
deriving DecidableEq, Repr

/-- A payout pulse in flight (R132, R143): `on` while its phase is ON; the off time was read when it began. -/
structure Pulse where
  slot : SlotNo
  drive : CoinDrive
  units : Nat
  on : Bool
  ends : Nat
  offTime : Nat
deriving DecidableEq, Repr

/-- The phases of a meter (R147). -/
inductive MeterPhase
  | idle
  | on
  | off
deriving DecidableEq, Repr

/-- A meter record (R132, R147); a pulse in progress keeps the off time it began with (R133). -/
structure Meter where
  pending : Nat
  phase : MeterPhase
  ends : Nat
  offTime : Nat
deriving DecidableEq, Repr

/-- The Coin Unit's records (R132). -/
structure CoinUnit where
  settings : CoinSettings
  inA : CoinIn
  inB : CoinIn
  bank : Nat
  totals : Totals
  pulse : Option Pulse
  meter1 : Meter
  meter2 : Meter
deriving DecidableEq, Repr

/-- The electrical levels of a slot's two lockout senses, true for high (R141). -/
structure Senses where
  l1 : Bool
  l2 : Bool
deriving DecidableEq, Repr

/-! ## Picture Sampler -/

/-- The sampler record (R152) and its place on the grid: the present line if one has opened, the tick it opened and
the next point (R153). -/
structure Sampler where
  sampling : Bool
  running : Half
  prev : Option Half
  stall : Nat
  line : Option Nat
  lineAt : Nat
  point : Nat
deriving DecidableEq, Repr

/-! ## Harness Tester -/

/-- The running step's slot, its present pattern and the tick the pattern's 2 ms end (R163). -/
structure TestRun where
  slot : SlotNo
  pattern : Lines
  ends : Nat
deriving DecidableEq, Repr

/-- The verdicts of a harness test (R163). -/
inductive TestVerdict
  | pass
  | fail
  | incomplete
deriving DecidableEq, Repr

/-- The test record (R163). -/
structure TestRecord where
  slot : SlotNo
  seed : Lines
  count : Nat
  done : Nat
  signature : Half
  cannotAssert : Vector Nat 24
  heldAsserted : Vector Nat 24
  verdict : Option TestVerdict
deriving DecidableEq, Repr

/-- The tester record and the test record (R163); the tester is FREE while `run` is none. -/
structure Tester where
  run : Option TestRun
  wait : List SlotNo
  record : Option TestRecord
deriving DecidableEq, Repr

/-! ## Controller Link -/

/-- A byte in the receive buffer with its marks (R173). -/
structure RxByte where
  byte : Byte
  gap : Bool
  loss : Bool
deriving DecidableEq, Repr

/-- The framer (R174). `len` bytes of kind, tag and body are due, `got` are held, `loss` says that a byte of the
frame carried a loss mark. -/
inductive Framer
  | hunt
  | length (loss : Bool)
  | frame (len : Nat) (got : List Byte) (loss : Bool)
  | check (got : List Byte) (loss : Bool)
deriving DecidableEq, Repr

/-- The keys of event notices (R177). -/
inductive NoticeKey
  | slot (i : SlotNo)
  | output
  | coin
  | panel
  | menu
  | stall
  | supply
deriving DecidableEq, Repr

/-- Which places of the transmit queue a message uses (R176): those of replies, COMPLETION and START-UP notices, or
those of event notices. -/
inductive MsgClass
  | group
  | event (key : NoticeKey)
deriving DecidableEq, Repr

/-- A message waiting to be sent: what its frame will hold (R172, R176). -/
structure Message where
  cls : MsgClass
  kind : Byte
  tag : Byte
  body : List Byte
deriving DecidableEq, Repr

/-- The causes of a start-up (R179). -/
inductive StartCause
  | powerOn
  | resetLine
  | restart
deriving DecidableEq, Repr

/-- The Controller Link (R173 to R181). Bit n of `noticeSet` is the notice kind 42h + n (R178). -/
structure Link where
  rx : List RxByte
  lossPending : Bool
  lastByteAt : Option Nat
  framer : Framer
  badFrames : Nat
  waiting : Option Request
  txq : List Message
  sending : Option Message
  held : List Message
  noticeSet : BitVec 7
  cause : StartCause
  restartPending : Bool
  inReset : Bool
deriving DecidableEq, Repr

/-! ## Internal tasks -/

/-- What a block asks of another in the course of one event (log 17, log 18). -/
inductive Task
  | turn (i : SlotNo)
  | beginStep (i : SlotNo)
  | stepEnd (i : SlotNo) (r : Result) (p : Option ProbeRecord)
  | prepareOutcome (i : SlotNo) (r : Result)
  | restartOutcome (i : SlotNo) (r : Result)
  | probeDone (i : SlotNo) (p : ProbeRecord)
  | outputProbeDone (i : SlotNo) (p : ProbeRecord)
  | grant
  | shed (i : SlotNo)
  | tester
  | payout
  | fade
  | bridgeEnd
  | targetCheck
  | heldCheck (i : SlotNo)
  | startSelection (sel : Selection)
deriving DecidableEq, Repr

/-! ## The whole part -/

/-- The state of the part. `now` counts ticks of the 48 MHz clock (log 1), `todo` holds the tasks of the event being
handled (log 18), `pending` the commands that wait (log 5). -/
structure State where
  now : Nat
  slots : Vector Slot 8
  supply : Supply
  queues : Vector Queue 8
  taps : Vector Tap 8
  engines : Vector (Option Measure) 2
  probeList : List ProbeRequest
  out : Output
  settings : OutSettings
  chg : Option Change
  classDeadline : Nat
  controls : Controls
  coin : CoinUnit
  senses : Vector Senses 8
  sampler : Sampler
  tester : Tester
  link : Link
  todo : List Task
  pending : List Instr
deriving DecidableEq, Repr

/-- Nothing stops the part: no command raises a fault, so no reason exists (log 2). Safe: there is no stop to lean
on. -/
inductive Fault
deriving DecidableEq, Repr

/-- Why a command is refused. -/
inductive Refusal
  /-- Raised by exec's arm of a command whose meaning has not been written. Safe: the model stops. -/
  | notModelled (mnemonic : String)
deriving DecidableEq, Repr

/-! ## Reset -/

/-- A slot after a hard reset (R23). -/
def Slot.reset : Slot :=
  { setup := none, state := .unconfigured, power := false, rest := none, restWaiting := false, warm := none,
    lastProbe := none, lastFault := none, testReturn := none, probeReturn := none, shedPending := false,
    restartUnderWay := false, faultAtEnd := false }

/-- A work queue after a reset (R41). -/
def Queue.reset : Queue := { ctrl := [], out := none, running := none, pauseEnd := none }

/-- A tap after a hard reset (R43, R64). -/
def Tap.reset : Tap :=
  { linePulseHigh := false, framePulseHigh := false, lineHigh := true, frameHigh := true, lastLine := none, lastFrame := none }

/-- No ALIGN or SETTLE is running. -/
def Cut.none : Cut := { opened := false, alignCount := 0, settleCount := 0, settleFrames := 0, timer := Option.none }

/-- The hold fields while the output is not HOLDING (R87). -/
def Hold.none : Hold :=
  { timer := Option.none, form := Option.none, rejoin := Option.none, cut := Cut.none, probing := false,
    awaitReady := false, stalledAt := Option.none }

/-- The output record after a hard reset at tick 0 (R87). -/
def Output.reset : Output :=
  { mode := .dark, source := none, sourceProbe := none, sync := .bridge, blanked := true,
    timing := { ticks := 3072, lines := 262 }, current := { ticks := 3072, lines := 262 }, frameStart := 0,
    classOut := .low, gain := 63, target := 63, stagedMap := none, stagedLevel := none,
    watch := { lineCount := 0, irregular := 0, timer := none }, hold := Hold.none }

/-- The output settings after a hard reset (R72). -/
def OutSettings.reset : OutSettings :=
  { acceptLow := true, acceptMedium := false, acceptHigh := false, windowLow := 4700, windowHigh := 6300,
    settle := 500, timeout := 30 }

/-- The Control Router after a hard reset that finds the whole panel released (R131, log 12). -/
def Controls.reset : Controls :=
  { panel := 0, capture := false, chordLines := [10, 21], holdTime := 2000, chord := .idle, chordEnd := none }

/-- All totals 0 (R150). -/
def Totals.reset : Totals :=
  { coinsA := 0, coinsB := 0, accepted := 0, added := 0, paid := 0, cleared := 0, lost := 0, jamsA := 0, jamsB := 0,
    noiseA := 0, noiseB := 0 }

/-- A meter after a hard reset (R150). -/
def Meter.reset : Meter := { pending := 0, phase := .idle, ends := 0, offTime := 0 }

/-- The Coin Unit after a hard reset that finds both switches open (R133, R150, log 12). -/
def CoinUnit.reset : CoinUnit :=
  { settings := { valueA := 1, valueB := 1, pulseMin := 20, pulseMax := 200, bankLimit := 40, meterA := some .one,
                  meterB := some .two, meterOn := 60, meterOff := 60 }
    inA := { state := .idle, since := 0, closed := false }
    inB := { state := .idle, since := 0, closed := false }
    bank := 0, totals := Totals.reset, pulse := none, meter1 := Meter.reset, meter2 := Meter.reset }

/-- The sampler after either reset (R162). -/
def Sampler.reset : Sampler :=
  { sampling := false, running := 0xFFFF, prev := none, stall := 0, line := none, lineAt := 0, point := 0 }

/-- The START-UP notice with the code of its cause (R181, 11_message_layouts.md). -/
def Message.startUp (code : Byte) : Message := { cls := .group, kind := 0x40, tag := 0, body := [code] }

/-- The link after a hard reset by power-on (R181): START-UP has been queued on an idle line and is being sent
(log 7). -/
def Link.reset : Link :=
  { rx := [], lossPending := false, lastByteAt := none, framer := .hunt, badFrames := 0, waiting := none, txq := [],
    sending := some (Message.startUp 0), held := [], noticeSet := 0x7F, cause := .powerOn, restartPending := false,
    inReset := false }

/-- The part right after a hard reset by power-on (R23, R41, R64, R72, R87, R116, R131, R150, R162, R171, R181). The
class settle deadline is 500 ms after the end of the reset (R88). -/
def State.reset : State :=
  { now := 0
    slots := Vector.replicate 8 Slot.reset
    supply := { permit := none, waitList := [], dip := false, level := 8 }
    queues := Vector.replicate 8 Queue.reset
    taps := Vector.replicate 8 Tap.reset
    engines := Vector.replicate 2 none
    probeList := []
    out := Output.reset
    settings := OutSettings.reset
    chg := none
    classDeadline := 500 * Config.ticksPerMs
    controls := Controls.reset
    coin := CoinUnit.reset
    senses := Vector.replicate 8 { l1 := true, l2 := true }
    sampler := Sampler.reset
    tester := { run := none, wait := [], record := none }
    link := Link.reset
    todo := []
    pending := [] }

end Sys2Proof.Machine
end

