-- ==== Sys2Proof/Machine/Ops.lean ====
section
/-! DEFINITION. The named operations every block shares: the clock and its timers, reading and writing one slot's
records, the transmit queue, and the tasks of an event. -/

namespace Sys2Proof.Machine

/-! ## Numbers -/

/-- A number clamped into a range (R2). -/
def clamp (lo hi n : Nat) : Nat := max lo (min hi n)

/-- A quotient rounded half up (00_scope.md, Rounding). -/
def rounded (n d : Nat) : Nat := (2 * n + d) / (2 * d)

/-- Milliseconds in ticks. -/
def ms (n : Nat) : Nat := n * Config.ticksPerMs

/-- A Boolean as a number, 1 for true. -/
def bit (b : Bool) : Nat := if b then 1 else 0

/-- A number as big-endian bytes, the low `k` bytes of it (R182). -/
def natBytes : Nat → Nat → List Byte
  | 0, _ => []
  | k + 1, n => BitVec.ofNat 8 (n >>> (8 * k)) :: natBytes k n

/-- One byte of a number. -/
def byteOf (n : Nat) : Byte := BitVec.ofNat 8 n

/-- A byte whose bits are the given flags, bit 0 first. -/
def flagByte (l : List Bool) : Byte := byteOf (l.foldr (fun b n => bit b + 2 * n) 0)

/-- The slots in order. -/
def allSlots : List SlotNo := [0, 1, 2, 3, 4, 5, 6, 7]

/-- The 24 lines in order. -/
def allLines : List LineNo :=
  [0, 1, 2, 3, 4, 5, 6, 7, 8, 9, 10, 11, 12, 13, 14, 15, 16, 17, 18, 19, 20, 21, 22, 23]

/-- The set of the lines that have a property. -/
def linesWhere (p : LineNo → Bool) : Lines :=
  allLines.foldr (fun n acc => if p n then acc ||| BitVec.twoPow 24 n.val else acc) 0

/-- A slot named by a request's byte, none outside 0 to 7 (R3, R34). -/
def slotOf (b : Byte) : Option SlotNo := if h : b.toNat < 8 then some ⟨b.toNat, h⟩ else none

/-! ## The clock (log 1, log 2) -/

/-- Time passes. -/
def State.advance (s : State) (dt : Nat) : State := { s with now := s.now + dt }

/-- A timer's end has come, so the clock stands at least at its tick. -/
def State.reach (s : State) (tick : Nat) : State := { s with now := max s.now tick }

/-- The tick a number of ms from now. -/
def State.after (s : State) (n : Nat) : Nat := s.now + ms n

/-- A remaining time in whole ms; what is no whole number of ms is rounded by the free value (log 4). -/
def remainingMs (ticks : Nat) : Nat :=
  ticks / Config.ticksPerMs +
    (if ticks % Config.ticksPerMs ≠ 0 ∧ Config.remainingRoundsUp ticks then 1 else 0)

/-- The remaining time of a timer in ms, 0 when it is stopped or its tick has passed. -/
def State.left (s : State) : Option Nat → Nat
  | none => 0
  | some tick => remainingMs (tick - s.now)

/-! ## One slot's records -/

/-- A slot's record (R1). -/
def State.slot (s : State) (i : SlotNo) : Slot := s.slots[i.val]

/-- A change of one slot's record. -/
def State.modSlot (s : State) (i : SlotNo) (f : Slot → Slot) : State :=
  { s with slots := s.slots.set i.val (f (s.slot i)) i.isLt }

/-- A slot's work queue (R25). -/
def State.queue (s : State) (i : SlotNo) : Queue := s.queues[i.val]

/-- A change of one work queue. -/
def State.modQueue (s : State) (i : SlotNo) (f : Queue → Queue) : State :=
  { s with queues := s.queues.set i.val (f (s.queue i)) i.isLt }

/-- A slot's sync tap (R42). -/
def State.tap (s : State) (i : SlotNo) : Tap := s.taps[i.val]

/-- A change of one tap. -/
def State.modTap (s : State) (i : SlotNo) (f : Tap → Tap) : State :=
  { s with taps := s.taps.set i.val (f (s.tap i)) i.isLt }

/-- An engine's measurement record, none while it is FREE (R45). -/
def State.engine (s : State) (k : EngineNo) : Option Measure := s.engines[k.val]

/-- An engine's new measurement record. -/
def State.setEngine (s : State) (k : EngineNo) (m : Option Measure) : State :=
  { s with engines := s.engines.set k.val m k.isLt }

/-- A slot's lockout sense levels (R141). -/
def State.sense (s : State) (i : SlotNo) : Senses := s.senses[i.val]

/-- A slot's profile, while it is configured. -/
def State.profile (s : State) (i : SlotNo) : Option Profile := (s.slot i).setup.map (·.profile)

/-- A number of a slot's profile; 0 for a slot that is not configured (no rule reads one there). -/
def State.profileNat (s : State) (i : SlotNo) (f : Profile → Nat) : Nat :=
  match s.profile i with
  | none => 0
  | some p => f p

/-- A change of a slot's profile and map. -/
def State.modSetup (s : State) (i : SlotNo) (f : Setup → Setup) : State :=
  s.modSlot i fun sl => { sl with setup := sl.setup.map f }

/-! ## One block's record -/

/-- A change of the output record. -/
def State.modOut (s : State) (f : Output → Output) : State := { s with out := f s.out }

/-- A change of the Power Supervisor's record. -/
def State.modSupply (s : State) (f : Supply → Supply) : State := { s with supply := f s.supply }

/-- A change of the changeover record, where it is present. -/
def State.modChange (s : State) (f : Change → Change) : State := { s with chg := s.chg.map f }

/-- A change of the Control Router's record. -/
def State.modControls (s : State) (f : Controls → Controls) : State := { s with controls := f s.controls }

/-- A change of the Coin Unit's records. -/
def State.modCoin (s : State) (f : CoinUnit → CoinUnit) : State := { s with coin := f s.coin }

/-- A change of the sampler record. -/
def State.modSampler (s : State) (f : Sampler → Sampler) : State := { s with sampler := f s.sampler }

/-- A change of the tester's records. -/
def State.modTester (s : State) (f : Tester → Tester) : State := { s with tester := f s.tester }

/-- A change of the link's records. -/
def State.modLink (s : State) (f : Link → Link) : State := { s with link := f s.link }

/-- Tasks of this event, done before those that already wait (log 17). -/
def State.push (s : State) (ts : List Task) : State := { s with todo := ts ++ s.todo }

/-! ## The transmit queue (R176, R177) -/

/-- Whether a message uses a reply-and-completion place. -/
def Message.isGroup (m : Message) : Bool := decide (m.cls = .group)

/-- How many of the 18 reply-and-completion places are in use. -/
def Link.placesUsed (l : Link) : Nat := l.txq.countP Message.isGroup

/-- Whether a reply-and-completion place is free (R175, R176). -/
def Link.hasPlace (l : Link) : Bool := decide (l.placesUsed < Config.groupPlaces)

/-- A message joins the tail of the transmit queue. -/
def State.enqueue (s : State) (m : Message) : State := s.modLink fun l => { l with txq := l.txq ++ [m] }

/-- A COMPLETION notice takes a free place at once; while older ones are held, or with none free, it is held in the
order of the outcomes (R33, R176). -/
def State.complete (s : State) (tag : Byte) (body : List Byte) : State :=
  let m : Message := { cls := .group, kind := 0x41, tag := tag, body := body }
  if s.link.held.isEmpty && s.link.hasPlace then s.enqueue m
  else s.modLink fun l => { l with held := l.held ++ [m] }

/-- A reply: its kind is the request's kind plus 80h, its tag the request's tag (R175). -/
def State.reply (s : State) (kind tag : Byte) (body : List Byte) : State :=
  s.enqueue { cls := .group, kind := kind + 0x80, tag := tag, body := body }

/-- A key's notice kind, as its place in the notice set (R178). -/
def NoticeKey.place : NoticeKey → Nat
  | .slot _ => 0
  | .output => 1
  | .coin => 2
  | .panel => 3
  | .menu => 4
  | .stall => 5
  | .supply => 6

/-- Whether a message is the waiting event notice of a key. -/
def Message.hasKey (k : NoticeKey) (m : Message) : Bool := decide (m.cls = .event k)

/-- A new notice takes the place of the waiting one of its key, or joins the tail (R177). -/
def putNotice (k : NoticeKey) (m : Message) (q : List Message) : List Message :=
  if q.any (Message.hasKey k) then q.map (fun x => if x.hasKey k then m else x) else q ++ [m]

/-- An event notice is queued when its kind is in the notice set (R177, R178); its tag is 0. -/
def State.notice (s : State) (k : NoticeKey) (body : List Byte) : State :=
  if s.link.noticeSet.getLsbD k.place then
    s.modLink fun l =>
      { l with txq := putNotice k { cls := .event k, kind := byteOf (0x42 + k.place), tag := 0, body := body } l.txq }
  else s

end Sys2Proof.Machine
end

