-- ==== Sys2Proof/Machine/Flags.lean ====
section
/-! DEFINITION. What the part works out from its state at every moment: the changeover target, the monitor acceptance
test, the drive modes and levels, the lockout outputs, whether payout runs, and the levels the part drives outward
(log 24). -/

namespace Sys2Proof.Machine

/-! ## Roles of a slot -/

/-- The changeover target (R88). -/
def State.target (s : State) : Option SlotNo := s.chg.bind (·.toSlot)

/-- Whether a slot is the changeover target. -/
def State.isTarget (s : State) (i : SlotNo) : Bool := decide (s.target = some i)

/-- Whether a slot is the output's source slot, which in HOLDING is the held slot (R65, R66). -/
def State.isSource (s : State) (i : SlotNo) : Bool := decide (s.out.source = some i)

/-- Whether a slot is named by the changeover's pending reselect (R3). -/
def State.isReselect (s : State) (i : SlotNo) : Bool :=
  match s.chg with
  | none => false
  | some c => decide (c.reselect.bind (·.slot) = some i)

/-- The held slot, while the output is HOLDING (R79). -/
def State.heldSlot (s : State) : Option SlotNo := if s.out.mode = .holding then s.out.source else none

/-- Whether a work queue is empty (R25). -/
def Queue.isEmpty (q : Queue) : Bool := q.ctrl.isEmpty && q.out.isNone

/-- The running entry (R27). -/
def Queue.current (q : Queue) : Option Entry :=
  match q.running with
  | none => none
  | some .controller => q.ctrl.head?
  | some .output => q.out

/-- The step that is running, or about to begin, in an entry (R26). -/
def Entry.step (e : Entry) : Option WorkStep := e.steps[e.done]?

/-- The running step of a queue. -/
def Queue.step (q : Queue) : Option WorkStep := q.current.bind Entry.step

/-- Whether the reserved output place holds the restart entry (R39). -/
def Queue.hasRestart (q : Queue) : Bool :=
  match q.out with
  | some e => decide (e.kind = .restart)
  | none => false

/-! ## Probe requests -/

/-- Whether an OUTPUT request is present, waiting or measuring; a released one is not (R65, R81). -/
def State.outputRequest (s : State) : Bool :=
  s.probeList.any (fun r => decide (r.kind = .output)) ||
    s.engines.toList.any fun m =>
      match m with
      | some m => decide (m.req.kind = .output) && !m.released
      | none => false

/-! ## The monitor acceptance test (R73) -/

/-- Whether a class is among the accepted classes. -/
def OutSettings.accepts (o : OutSettings) : ScanClass → Bool
  | .low => o.acceptLow
  | .medium => o.acceptMedium
  | .high => o.acceptHigh
  | .out => false

/-- The monitor acceptance test on a probe's derived figures (R73). -/
def OutSettings.accept (o : OutSettings) (d : Derived) : Bool :=
  o.accepts d.cls && decide (o.windowLow ≤ d.frameRate ∧ d.frameRate ≤ o.windowHigh)

/-! ## Counted frames -/

/-- Whether two line counts are within 8 lines of each other either way (R77, R101). -/
def within8 (c n : Nat) : Bool := decide (c ≤ n + 8 ∧ n ≤ c + 8)

/-- Whether a frame's line count fits a probe record: within 8 lines of count A, or of the nearer of A and B on an
interlaced board (R77, R101). -/
def ProbeRecord.fits (p : ProbeRecord) (count : Nat) : Bool :=
  let near (o : Option Nat) : Bool := match o with | some n => within8 count n | none => false
  let interlaced := match p.derived with | some d => d.interlaced | none => false
  near p.countA || (interlaced && near p.countB)

/-- Whether a frame's line count fits the record at hand, if any. -/
def fitsProbe (p : Option ProbeRecord) (count : Nat) : Bool :=
  match p with
  | some p => p.fits count
  | none => false

/-- A line counter that stops at 2,047 (R77, R101). -/
def countLine (n : Nat) : Nat := min 2047 (n + 1)

/-- What a frame pulse makes of a running line count: the count of the frame that ended and the count the new frame
opens with. A line pulse already counted in the frame pulse's own tick belongs to the new frame (R52, log 3). -/
def splitFrame (coincident : Bool) (count : Nat) : Nat × Nat := if coincident then (count - 1, 1) else (count, 0)

/-! ## Drive lines (R118 to R123, R129) -/

/-- Drive modes (R118). -/
inductive DriveMode
  | park
  | map
  | test
deriving DecidableEq, Repr

/-- Whether a harness test is running on a slot. -/
def State.testRunsOn (s : State) (i : SlotNo) : Bool :=
  match s.tester.run with
  | some r => decide (r.slot = i)
  | none => false

/-- A slot's drive mode (R119). From the moment a reset opens the switches every slot is in PARK (R124, R181, log 11). -/
def State.driveMode (s : State) (i : SlotNo) : DriveMode :=
  if s.link.inReset then .park
  else if s.testRunsOn i then .test
  else if (s.slot i).state = .active ∧ s.out.mode = .showing ∧ s.controls.capture = false then .map
  else .park

/-- The level a map source gives: a chord line is withheld while the chord is latched (R121, R129). -/
def Controls.sourceLevel (c : Controls) : MapSource → Bool
  | .released => false
  | .asserted => true
  | .panel n => c.panel.getLsbD n.val && !(decide (c.chord = .latched) && c.chordLines.contains n)

/-- The levels of a slot's drive record, asserted lines as 1 (R118); none for an UNCONFIGURED slot, whose record is
empty (R120). -/
def State.driveLevels (s : State) (i : SlotNo) : Option Lines :=
  match (s.slot i).setup with
  | none => none
  | some su =>
    some (match s.driveMode i with
      | .test => match s.tester.run with | some r => r.pattern | none => 0
      | .map => linesWhere fun n => s.controls.sourceLevel su.map[n.val]
      | .park => su.profile.park)

/-- The asserted lines at a slot's connector: the drive record while the power is ON or the mode is TEST, otherwise all
released (R120, R124). -/
def State.connector (s : State) (i : SlotNo) : Lines :=
  if (s.slot i).power || decide (s.driveMode i = .test) then (s.driveLevels i).getD 0 else 0

/-- Whether a drive line's output sinks current at the connector: an asserted line at LOW-ASSERT, a released one at
HIGH-ASSERT; off for an UNCONFIGURED slot (R118, R120). -/
def State.sinks (s : State) (i : SlotNo) (n : LineNo) : Bool :=
  match s.profile i with
  | none => false
  | some p => decide (p.polarity = .lowAssert) == (s.connector i).getLsbD n.val

/-- Sense readings turned into asserted lines by the slot's polarity; a high line reads 1 (R118, R167). -/
def readLines (pol : Polarity) (high : Lines) : Lines :=
  match pol with
  | .lowAssert => ~~~high
  | .highAssert => high

/-! ## Coins (R138, R141, R142) -/

/-- Lockout output A (R138). -/
def CoinUnit.lockoutA (c : CoinUnit) : Bool :=
  decide (c.settings.bankLimit < c.bank + c.settings.valueA) || decide (c.inA.state = .jam)

/-- Lockout output B (R138). -/
def CoinUnit.lockoutB (c : CoinUnit) : Bool :=
  decide (c.settings.bankLimit < c.bank + c.settings.valueB) || decide (c.inB.state = .jam)

/-- A slot's lockout sense level paired with a coin drive, true for high (R141). -/
def Senses.level (x : Senses) : CoinDrive → Bool
  | .c1 => x.l1
  | .c2 => x.l2

/-- Whether a lockout sense reads asserted at the slot's polarity; not asserted for an UNCONFIGURED slot (R141, R149,
11_message_layouts.md). -/
def State.senseAsserted (s : State) (i : SlotNo) (d : CoinDrive) : Bool :=
  match s.profile i with
  | none => false
  | some p => (s.sense i).level d == decide (p.polarity = .highAssert)

/-- The coin profile of the source slot in SHOWING with capture off: present exactly while payout is running
(R142). -/
def State.payoutProfile (s : State) : Option (SlotNo × CoinProfile) :=
  if s.out.mode = .showing ∧ s.controls.capture = false then
    match s.out.source with
    | none => none
    | some i => ((s.profile i).bind (·.coin)).map (Prod.mk i)
  else none

/-- Whether the payout record is running, not paused (R142). -/
def State.payoutRunning (s : State) : Bool := s.payoutProfile.isSome

/-- Whether a slot's coin drive is asserted at its connector (R141, R143, R144). -/
def State.coinDriveAsserted (s : State) (i : SlotNo) (d : CoinDrive) : Bool :=
  match s.coin.pulse with
  | some p => decide (p.slot = i ∧ p.drive = d) && p.on && (s.slot i).power
  | none => false

/-- Whether a coin drive's output sinks current at the connector, by the table of the drive lines; off for an
UNCONFIGURED slot (R118, R141). -/
def State.coinSinks (s : State) (i : SlotNo) (d : CoinDrive) : Bool :=
  match s.profile i with
  | none => false
  | some p => decide (p.polarity = .lowAssert) == s.coinDriveAsserted i d

/-- A meter's drive is asserted in its ON phase (R147). -/
def Meter.driven (m : Meter) : Bool := decide (m.phase = .on)

/-! ## The monitor and the amplifier (R67 to R71) -/

/-- The two class-select lines (R71). -/
def classLines : ScanClass → Bool × Bool
  | .medium => (true, false)
  | .high => (false, true)
  | _ => (false, false)

/-- The slot whose picture the monitor shows, none while it is held at black (R67, R70). -/
def Output.picture (o : Output) : Option SlotNo :=
  match o.sync with
  | .bridge => none
  | .slot i => if o.blanked then none else some i

/-- The slot whose sound feeds the amplifier and the attenuation it is fed at, none for silence (R67). -/
def Output.sound (o : Output) : Option (SlotNo × Nat) :=
  match o.sync with
  | .bridge => none
  | .slot i => some (i, o.gain)

/-- The width of a bridge line pulse in ticks: the line length divided by 13, rounded down (R68). -/
def BridgeTiming.pulseWidth (t : BridgeTiming) : Nat := t.ticks / 13

/-- The length of a bridge frame in ticks (R68). -/
def BridgeTiming.frameTicks (t : BridgeTiming) : Nat := t.ticks * t.lines

/-- The bridge's line sync and frame sync, true while the negative-going pulse is present: a line pulse opens each
line, a frame pulse lasts the frame's first 3 lines (R68). -/
def State.bridgeSync (s : State) : Bool × Bool :=
  let t := s.now - s.out.frameStart
  (decide (t % s.out.current.ticks < s.out.current.pulseWidth), decide (t < 3 * s.out.current.ticks))

/-- A tap's delayed line sync and frame sync, true while the pulse is present: the input stands at its pulse level
(R42, R43). -/
def Tap.sync (t : Tap) : Bool × Bool := (t.lineHigh == t.linePulseHigh, t.frameHigh == t.framePulseHigh)

/-- The monitor's line sync and frame sync, true while the pulse is present: the sync source's, the bridge's or the
slot's delayed sync (R44, R67). -/
def State.monitorSync (s : State) : Bool × Bool :=
  match s.out.sync with
  | .bridge => s.bridgeSync
  | .slot i => (s.tap i).sync

/-- The level of a negative-going sync line at the monitor, true for high: low while the pulse is present (R67, R68). -/
def negativeGoing (pulse : Bool) : Bool := !pulse

/-- The levels of the monitor's line sync and frame sync, both negative-going (R67, R68). -/
def State.monitorSyncLevels (s : State) : Bool × Bool :=
  (negativeGoing s.monitorSync.1, negativeGoing s.monitorSync.2)

end Sys2Proof.Machine
end

