-- ==== Sys2Proof/Machine/Operands.lean ====
section
/-! DEFINITION. Every operand form of the requests: how the bytes sent become the values stored, clamped or refused by
the owning rules (R2, R26, R72, R121, R130, R133, R183). -/

namespace Sys2Proof.Machine

/-! ## Codes of enumerated fields (11_message_layouts.md); none for a code that names nothing -/

/-- Power policy: KEEP 0, SHED 1. -/
def policyOf (b : Byte) : Option PowerPolicy :=
  if b = 0 then some .keep else if b = 1 then some .shed else none

/-- Stall policy: NOTIFY 0, RESTART 1. -/
def stallPolicyOf (b : Byte) : Option StallPolicy :=
  if b = 0 then some .notify else if b = 1 then some .restart else none

/-- Drive polarity: LOW-ASSERT 0, HIGH-ASSERT 1. -/
def polarityOf (b : Byte) : Option Polarity :=
  if b = 0 then some .lowAssert else if b = 1 then some .highAssert else none

/-- Coin drive: 0 no coin profile, 1 C1, 2 C2 (R183). -/
def coinDriveOf (b : Byte) : Option (Option CoinDrive) :=
  if b = 0 then some none else if b = 1 then some (some .c1) else if b = 2 then some (some .c2) else none

/-- Meter: 0 none, 1, 2. -/
def meterOf (b : Byte) : Option (Option MeterNo) :=
  if b = 0 then some none else if b = 1 then some (some .one) else if b = 2 then some (some .two) else none

/-- Map source: PANEL n is n, RELEASED 24, ASSERTED 25. -/
def mapSourceOf (b : Byte) : Option MapSource :=
  if h : b.toNat < 24 then some (.panel ⟨b.toNat, h⟩)
  else if b = 24 then some .released
  else if b = 25 then some .asserted
  else none

/-- A panel line number 0 to 23. -/
def lineOf (b : Byte) : Option LineNo := if h : b.toNat < 24 then some ⟨b.toNat, h⟩ else none

/-- The slot byte of SELECT: 0 to 7, or NONE 8; none above 8 (R183). -/
def selectionOf (b : Byte) : Option (Option SlotNo) := if b = 8 then some none else (slotOf b).map some

/-! ## Profiles (R2) -/

/-- A stall limit: 0 stays, 1 to 59 become 60, above 36,000 become 36,000 (R2). -/
def clampStall (n : Nat) : Nat := if n = 0 then 0 else clamp 60 36000 n

/-- The profile SET-SLOT stores, each number clamped; none when an enumerated field names no listed value (R2, R3).
The coin fields of a profile whose coin drive is 0 are not read (R183). -/
def storeProfile (r : RawProfile) : Option Profile :=
  match policyOf r.powerPolicy, stallPolicyOf r.stallPolicy, polarityOf r.polarity, coinDriveOf r.coinDrive with
  | some policy, some stall, some pol, some drive =>
    some
      { warmUp := clamp 500 20000 r.warmUp.toNat
        rest := clamp 500 10000 r.rest.toNat
        policy := policy
        settleFrames := clamp 0 15 r.settleFrames.toNat
        audioLevel := clamp 0 62 r.audioLevel.toNat
        recovery := clamp 1000 10000 r.recovery.toNat
        stallLimit := clampStall r.stallLimit.toNat
        stallPolicy := stall
        polarity := pol
        park := r.park
        coin := drive.map fun d =>
          { drive := d, units := clamp 1 15 r.units.toNat, onTime := clamp 20 250 r.onTime.toNat,
            offTime := clamp 20 250 r.offTime.toNat } }
  | _, _, _, _ => none

/-! ## Input maps (R121, R122) -/

/-- A list of 24 elements as a vector, from a function of the line number. -/
def perLine {α : Type} (f : LineNo → α) : Vector α 24 :=
  #v[f 0, f 1, f 2, f 3, f 4, f 5, f 6, f 7, f 8, f 9, f 10, f 11, f 12, f 13, f 14, f 15, f 16, f 17, f 18, f 19,
     f 20, f 21, f 22, f 23]

/-- The identity map: drive line n takes PANEL n (R3). -/
def identityMap : InputMap := perLine .panel

/-- The map SET-MAP stores; none when an entry's source names nothing (R122). -/
def readMapSources (v : Vector Byte 24) : Option InputMap :=
  if allLines.all (fun n => (mapSourceOf v[n.val]).isSome) then
    some (perLine fun n => (mapSourceOf v[n.val]).getD .released)
  else none

/-! ## Steps (R26, R34) -/

/-- The step a place of SLOT-WORK stores, its parameters clamped: a seed of 0 is stored as 1, a count is 1 to 4,096, a
duration 100 to 10,000 ms; none for a kind code that names no step (R26). -/
def storeStep (r : RawStep) : Option WorkStep :=
  if r.kind = 1 then some .powerOn
  else if r.kind = 2 then some .powerOff
  else if r.kind = 3 then some .probe
  else if r.kind = 4 then
    let seed : Lines := r.params.extractLsb' 16 24
    some (.harness (if seed = 0 then 1 else seed) (clamp 1 4096 (r.params.extractLsb' 0 16).toNat))
  else if r.kind = 5 then some (.pause (clamp 100 10000 (r.params.extractLsb' 24 16).toNat))
  else none

/-- The steps of a SLOT-WORK within its step count; none for a count of 0 or above 4 or for a kind code that names no
step (R34). Places beyond the count are not read (R183). -/
def readSteps (count : Byte) (steps : Vector RawStep 4) : Option (List WorkStep) :=
  if 1 ≤ count.toNat ∧ count.toNat ≤ 4 then (steps.toList.take count.toNat).mapM storeStep else none

/-! ## Output settings (R72) -/

/-- The settings SET-OUTPUT stores; none for an empty set of classes, a bit above bit 2, or a clamped low above the
clamped high (R72, R183). -/
def storeOutput (r : RawOutput) : Option OutSettings :=
  let low := clamp 4000 7500 r.windowLow.toNat
  let high := clamp 4000 7500 r.windowHigh.toNat
  if r.classes = 0 ∨ 8 ≤ r.classes.toNat ∨ high < low then none
  else
    some
      { acceptLow := r.classes.getLsbD 0, acceptMedium := r.classes.getLsbD 1, acceptHigh := r.classes.getLsbD 2
        windowLow := low, windowHigh := high
        settle := clamp 100 2000 r.settle.toNat
        timeout := clamp 5 120 r.timeout.toNat }

/-! ## Cabinet settings (R133) -/

/-- The coin settings and the dip threshold level SET-CABINET stores; none for an unknown meter code or a clamped
minimum above the clamped maximum (R133, R20). -/
def storeCabinet (r : RawCabinet) : Option (CoinSettings × Nat) :=
  match meterOf r.meterA, meterOf r.meterB with
  | some mA, some mB =>
    let lo := clamp 5 500 r.pulseMin.toNat
    let hi := clamp 5 500 r.pulseMax.toNat
    if hi < lo then none
    else
      some
        ({ valueA := clamp 1 15 r.valueA.toNat, valueB := clamp 1 15 r.valueB.toNat, pulseMin := lo, pulseMax := hi
           bankLimit := clamp 1 250 r.bankLimit.toNat, meterA := mA, meterB := mB
           meterOn := clamp 30 250 r.meterOn.toNat, meterOff := clamp 30 250 r.meterOff.toNat },
         clamp 1 15 r.dipLevel.toNat)
  | _, _ => none

/-! ## The chord (R130) -/

/-- The chord lines and hold time SET-CHORD stores: 1 to 4 lines within 0 to 23, a line named more than once counts
once, the hold time clamped into 250 to 5,000 ms (R130). The entries beyond the count are not read (R183). -/
def storeChord (r : RawChord) : Option (List LineNo × Nat) :=
  if 1 ≤ r.count.toNat ∧ r.count.toNat ≤ 4 then
    (([r.line0, r.line1, r.line2, r.line3].take r.count.toNat).mapM lineOf).map fun l =>
      (l.foldl (fun acc n => if acc.contains n then acc else acc ++ [n]) [], clamp 250 5000 r.hold.toNat)
  else none

end Sys2Proof.Machine
end

