-- ==== Sys2Proof/Machine/Layouts.lean ====
section
/-! DEFINITION. The bodies of every reply and notice, byte by byte (R182, R184 and the tables of
11_message_layouts.md). A field the part does not hold is sent as 0, a field marked none as FFh (R182, log 20). -/

namespace Sys2Proof.Machine

/-! ## Codes -/

/-- The code of a result, fault reason or SELECT outcome. -/
def Result.code : Result → Byte
  | .ok => 0
  | .noVsync => 1
  | .noHsync => 2
  | .linesOver => 3
  | .outOfRange => 4
  | .harnessFail => 5
  | .powerTrip => 6
  | .notPowered => 7
  | .inUse => 8
  | .aborted => 9
  | .syncLost => 10
  | .timingChanged => 11
  | .alignTimeout => 12
  | .settleLost => 13
  | .superseded => 14
  | .cancelled => 15
  | .prepareFailed => 16
  | .prepareTimeout => 17
  | .monitorRejects => 18

/-- The code of a probe verdict. -/
def Verdict.code : Verdict → Byte
  | .good => 0
  | .noVsync => 1
  | .noHsync => 2
  | .linesOver => 3
  | .outOfRange => 4

/-- The code of a slot state. -/
def SlotState.code : SlotState → Byte
  | .unconfigured => 0
  | .off => 1
  | .resting => 2
  | .waiting => 3
  | .starting => 4
  | .warm => 5
  | .probing => 6
  | .ready => 7
  | .active => 8
  | .testing => 9
  | .fault => 10

/-- The code of a class. -/
def ScanClass.code : ScanClass → Byte
  | .low => 0
  | .medium => 1
  | .high => 2
  | .out => 3

/-- The code of an output mode. -/
def Mode.code : Mode → Byte
  | .dark => 0
  | .changing => 1
  | .showing => 2
  | .holding => 3

/-- The code of a changeover stage. -/
def Stage.code : Stage → Byte
  | .fade => 0
  | .bridge => 1
  | .prepare => 2
  | .reclass => 3
  | .align => 4
  | .settle => 5

/-- The code of a start-up cause. -/
def StartCause.code : StartCause → Byte
  | .powerOn => 0
  | .resetLine => 1
  | .restart => 2

/-- The code of a map source: PANEL n is n, RELEASED 24, ASSERTED 25. -/
def MapSource.code : MapSource → Nat
  | .panel n => n.val
  | .released => 24
  | .asserted => 25

/-- The code of a power policy. -/
def PowerPolicy.code : PowerPolicy → Byte
  | .keep => 0
  | .shed => 1

/-- The code of a stall policy. -/
def StallPolicy.code : StallPolicy → Byte
  | .notify => 0
  | .restart => 1

/-- The code of a drive polarity. -/
def Polarity.code : Polarity → Byte
  | .lowAssert => 0
  | .highAssert => 1

/-- The code of a coin drive in a profile. -/
def driveCode : CoinDrive → Byte
  | .c1 => 1
  | .c2 => 2

/-- The code of a meter setting. -/
def meterCode : Option MeterNo → Byte
  | none => 0
  | some .one => 1
  | some .two => 2

/-- A slot, or FFh for none. -/
def slotCode : Option SlotNo → Byte
  | none => 0xFF
  | some i => byteOf i.val

/-- The slot of a SELECT: 0 to 7, NONE 8. -/
def selectionCode : Option SlotNo → Byte
  | none => 8
  | some i => byteOf i.val

/-- The sync source: slot 0 to 7, BRIDGE 8. -/
def SyncSource.code : SyncSource → Byte
  | .bridge => 8
  | .slot i => byteOf i.val

/-- The hold's form: loss 0, restart 1, FFh outside HOLDING. -/
def formCode : Option HoldForm → Byte
  | none => 0xFF
  | some .loss => 0
  | some .restart => 1

/-- The rejoin's stage: none 0, ALIGN 1, SETTLE 2. -/
def rejoinCode : Option RejoinStage → Byte
  | none => 0
  | some .align => 1
  | some .settle => 2

/-- A last fault: the reason's code, 0 for none. -/
def faultCode : Option Result → Byte
  | none => 0
  | some r => r.code

/-- A coin input's state: OPEN 0, TIMING 1, JAM 2. -/
def Closure.code : Closure → Nat
  | .idle => 0
  | .timing => 1
  | .jam => 2

/-- A meter's phase: IDLE 0, ON 1, OFF 2. -/
def MeterPhase.code : MeterPhase → Nat
  | .idle => 0
  | .on => 1
  | .off => 2

/-- A harness verdict: none 0, PASS 1, FAIL 2, INCOMPLETE 3. -/
def testVerdictCode : Option TestVerdict → Byte
  | none => 0
  | some .pass => 1
  | some .fail => 2
  | some .incomplete => 3

/-- Lines by number, one byte each. -/
def lineCodes (l : List LineNo) : List Byte := l.map fun n => byteOf n.val

/-- Slots by number, one byte each. -/
def slotCodes (l : List SlotNo) : List Byte := l.map fun i => byteOf i.val

/-- A list of bytes filled up to `n` places with `fill`. -/
def padded (n : Nat) (fill : Byte) (l : List Byte) : List Byte := (l ++ List.replicate n fill).take n

/-! ## Outcomes (R175, R182) -/

/-- The refusal reasons (R175). -/
inductive Reason
  | unknownKind
  | badLength
  | badSlot
  | badValue
  | notConfigured
  | queueFull
  | inUse
  | notAllowed
deriving DecidableEq, Repr

/-- The code of a refusal reason. -/
def Reason.code : Reason → Byte
  | .unknownKind => 1
  | .badLength => 2
  | .badSlot => 3
  | .badValue => 4
  | .notConfigured => 5
  | .queueFull => 6
  | .inUse => 7
  | .notAllowed => 8

/-- A DONE reply's body. -/
def doneBody (fields : List Byte) : List Byte := 0 :: fields

/-- An ACCEPTED reply's body. -/
def acceptedBody (fields : List Byte) : List Byte := 1 :: fields

/-- A REFUSED reply's body. -/
def refusedBody (r : Reason) : List Byte := [2, r.code]

/-- An ALREADY reply's body. -/
def alreadyBody : List Byte := [3]

/-- A TOO_LATE reply's body. -/
def tooLateBody : List Byte := [4]

/-! ## Blocks of fields -/

/-- The profile block, 20 bytes. -/
def Profile.block (p : Profile) : List Byte :=
  natBytes 2 p.warmUp ++ natBytes 2 p.rest ++ natBytes 2 p.recovery ++ natBytes 2 p.stallLimit ++
  [byteOf p.settleFrames, byteOf p.audioLevel, p.policy.code, p.stallPolicy.code, p.polarity.code] ++
  lineBytes p.park ++
  match p.coin with
  | none => [0, 0, 0, 0]
  | some c => [driveCode c.drive, byteOf c.units, byteOf c.onTime, byteOf c.offTime]

/-- An input map as a 120-bit number, entry n in bits 5n to 5n + 4, in 15 bytes. -/
def mapBlock (m : InputMap) : List Byte :=
  natBytes 15 (m.toList.foldr (fun e acc => e.code + 32 * acc) 0)

/-- A probe record in the probe block, 17 bytes; a verdict of FFh for no record. -/
def probeBlock : Option ProbeRecord → List Byte
  | none => 0xFF :: List.replicate 16 0
  | some p =>
    let d := p.derived
    let cls : Nat := match d with | some d => d.cls.code.toNat | none => 0
    let inter : Bool := match d with | some d => d.interlaced | none => false
    [p.verdict.code,
     byteOf (cls + 4 * bit inter + 8 * bit p.t256.isSome + 16 * bit p.countA.isSome + 32 * bit p.countB.isSome +
       64 * bit d.isSome)] ++
    natBytes 3 (p.t256.getD (p.periods.getD 0)) ++ natBytes 2 (p.countA.getD 0) ++ natBytes 2 (p.countB.getD 0) ++
    match d with
    | none => List.replicate 8 0
    | some d => natBytes 2 d.lineRate ++ natBytes 2 d.lineTicks ++ natBytes 2 d.frameLines ++ natBytes 2 d.frameRate

/-! ## Notices -/

/-- The body of a SLOT notice: slot, state, power, last fault (R6). -/
def State.slotNoticeBody (s : State) (i : SlotNo) : List Byte :=
  [byteOf i.val, (s.slot i).state.code, byteOf (bit (s.slot i).power), faultCode (s.slot i).lastFault]

/-- The causes of an OUTPUT notice (R66). -/
inductive OutCause
  | changeover
  | lossFrames
  | lossNoSync
  | stallRestart
  | rejoined
  | syncLost
  | timingChanged
  | powerTrip
  | restartFailed
deriving DecidableEq, Repr

/-- The code of an OUTPUT cause. -/
def OutCause.code : OutCause → Byte
  | .changeover => 0
  | .lossFrames => 1
  | .lossNoSync => 2
  | .stallRestart => 3
  | .rejoined => 4
  | .syncLost => 5
  | .timingChanged => 6
  | .powerTrip => 7
  | .restartFailed => 8

/-- The body of an OUTPUT notice (R66). -/
def Output.noticeBody (o : Output) (cause : OutCause) : List Byte :=
  [o.mode.code, slotCode o.source, o.sync.code, byteOf (bit o.blanked), o.classOut.code, cause.code]

/-- The causes of a COIN notice (R148). -/
inductive CoinCause
  | coin (x : CoinInput)
  | jam (x : CoinInput)
  | jamCleared (x : CoinInput)
  | creditAdded
  | creditCleared
  | payout
deriving DecidableEq, Repr

/-- The code of a COIN cause. -/
def CoinCause.code : CoinCause → Byte
  | .coin .a => 0
  | .coin .b => 1
  | .jam .a => 2
  | .jam .b => 3
  | .jamCleared .a => 4
  | .jamCleared .b => 5
  | .creditAdded => 6
  | .creditCleared => 7
  | .payout => 8

/-- The coin state byte of QUERY-COIN and the COIN notice. -/
def State.coinStateByte (s : State) : Byte :=
  byteOf (bit s.coin.lockoutA + 2 * bit s.coin.lockoutB + 4 * s.coin.inA.state.code + 16 * s.coin.inB.state.code +
    64 * bit s.payoutRunning + 128 * bit s.coin.pulse.isSome)

/-- The body of a COIN notice (R148). -/
def State.coinNoticeBody (s : State) (cause : CoinCause) : List Byte :=
  [byteOf s.coin.bank, s.coinStateByte] ++
  (match s.coin.pulse with
   | none => [0xFF, 0xFF]
   | some p => [byteOf p.slot.val, byteOf (bit (!p.on))]) ++
  [cause.code]

/-- The body of a PANEL notice (R127). -/
def State.panelNoticeBody (s : State) : List Byte :=
  lineBytes s.controls.panel ++ [byteOf (bit s.controls.capture), s.out.mode.code]

/-- The body of a MENU notice; unused line places hold none (R128). -/
def State.menuNoticeBody (s : State) : List Byte :=
  byteOf s.controls.chordLines.length ::
    padded 4 0xFF (lineCodes s.controls.chordLines) ++
    lineBytes s.controls.panel ++ [s.out.mode.code]

/-- The body of a STALL notice (R156). -/
def stallNoticeBody (i : SlotNo) (signature : Half) (limit : Nat) (policy : StallPolicy) : List Byte :=
  byteOf i.val :: natBytes 2 signature.toNat ++ natBytes 2 limit ++ [policy.code]

/-- The body of a SUPPLY notice (R20). -/
def Supply.noticeBody (p : Supply) : List Byte := [byteOf (bit p.dip), byteOf p.level]

/-- The body of a work COMPLETION: source, slot, steps done, result, probe block (R33). -/
def workCompletion (i : SlotNo) (done : Nat) (r : Result) (p : Option ProbeRecord) : List Byte :=
  [0, byteOf i.val, byteOf done, r.code] ++ probeBlock p

/-- The body of a SELECT COMPLETION: source, slot or NONE, outcome, step result for PREPARE_FAILED (R89). -/
def selectCompletion (slot : Option SlotNo) (outcome step : Result) : List Byte :=
  [1, selectionCode slot, outcome.code, if outcome = .prepareFailed then step.code else 0]

/-! ## Replies -/

/-- STATUS (R179). -/
def State.statusBody (s : State) : List Byte :=
  (allSlots.map fun i => (s.slot i).state.code) ++
  [s.out.mode.code, slotCode s.supply.permit, flagByte [s.supply.dip, s.controls.capture], byteOf s.coin.bank] ++
  natBytes 2 s.link.badFrames ++ [s.link.cause.code]

/-- The settings as the SET-OUTPUT body, eight bytes. -/
def OutSettings.block (o : OutSettings) : List Byte :=
  flagByte [o.acceptLow, o.acceptMedium, o.acceptHigh] ::
    natBytes 2 o.windowLow ++ natBytes 2 o.windowHigh ++ natBytes 2 o.settle ++ [byteOf o.timeout]

/-- The settings as the SET-CABINET body, twelve bytes. -/
def cabinetBlock (c : CoinSettings) (level : Nat) : List Byte :=
  [byteOf c.valueA, byteOf c.valueB] ++ natBytes 2 c.pulseMin ++ natBytes 2 c.pulseMax ++
  [byteOf c.bankLimit, meterCode c.meterA, meterCode c.meterB, byteOf c.meterOn, byteOf c.meterOff, byteOf level]

/-- One stored step as the six bytes of its place in SLOT-WORK. -/
def WorkStep.bytes : WorkStep → List Byte
  | .powerOn => [1, 0, 0, 0, 0, 0]
  | .powerOff => [2, 0, 0, 0, 0, 0]
  | .probe => [3, 0, 0, 0, 0, 0]
  | .harness seed count => 4 :: lineBytes seed ++ natBytes 2 count
  | .pause n => 5 :: natBytes 2 n ++ [0, 0, 0]

/-- The four step places of an ACCEPTED reply to SLOT-WORK, 24 bytes; places beyond the steps hold 0. -/
def stepsBlock (l : List WorkStep) : List Byte :=
  padded 24 0 (l.map WorkStep.bytes).flatten

/-- The reply to SET-CHORD: the count after duplicates collapse, four places, the hold time (R130). -/
def Controls.chordBlock (c : Controls) : List Byte :=
  byteOf c.chordLines.length ::
    padded 4 0 (lineCodes c.chordLines) ++ natBytes 2 c.holdTime

/-- The reply to CAPTURE: the flag and the panel state (R125). -/
def Controls.captureBlock (c : Controls) : List Byte := byteOf (bit c.capture) :: lineBytes c.panel

/-- The place of a slot in the permit wait list, 1 to 8, or 0 (R22). -/
def Supply.position (p : Supply) (i : SlotNo) : Nat :=
  if p.waitList.contains i then p.waitList.idxOf i + 1 else 0

/-- The kind of the reserved output place's entry: empty 0, prepare 1, restart 2. -/
def Queue.outCode (q : Queue) : Nat :=
  match q.out with
  | none => 0
  | some e => if e.kind = .restart then 2 else 1

/-- QUERY-SLOT (R22), 61 bytes. -/
def State.slotBody (s : State) (i : SlotNo) : List Byte :=
  let sl := s.slot i
  let q := s.queue i
  [byteOf i.val, sl.state.code,
   flagByte [sl.power, sl.warm.isSome || sl.rest.isSome, sl.warm.isSome, sl.restWaiting,
     decide (s.supply.permit = some i), sl.shedPending, sl.restartUnderWay],
   faultCode sl.lastFault,
   match sl.testReturn with | some st => st.code | none => 0xFF] ++
  natBytes 2 (if sl.warm.isSome then s.left sl.warm else s.left sl.rest) ++
  [byteOf (s.supply.position i), byteOf (q.ctrl.length + 8 * q.outCode)] ++
  (match sl.setup with
   | none => List.replicate 35 0
   | some su => su.profile.block ++ mapBlock su.map) ++
  probeBlock sl.lastProbe

/-- The changeover record's twelve bytes in QUERY-OUTPUT (R115). Without a record the from slot is none and every
other field 0 (log 20). -/
def State.changeBlock (s : State) : List Byte :=
  match s.chg with
  | none => 0xFF :: List.replicate 11 0
  | some c =>
    [slotCode c.fromSlot, selectionCode c.toSlot, c.tag, c.stage.code] ++ natBytes 2 (s.left c.cut.timer) ++
    natBytes 3 (s.left c.prepareTimer) ++
    [byteOf (if c.stage = .settle then c.cut.settleCount else 0),
     match c.reselect with | some r => selectionCode r.slot | none => 0,
     match c.reselect with | some r => r.tag | none => 0]

/-- QUERY-OUTPUT (R115), 58 bytes. -/
def State.outputBody (s : State) : List Byte :=
  let o := s.out
  [o.mode.code, slotCode o.source, o.sync.code,
   flagByte [o.blanked, o.stagedLevel.isSome, o.stagedMap.isSome, s.outputRequest, s.chg.isSome,
     (s.chg.bind (·.reselect)).isSome, s.sampler.prev.isSome]] ++
  natBytes 2 o.timing.ticks ++ natBytes 2 o.timing.lines ++
  [o.classOut.code, byteOf o.gain, byteOf o.target, byteOf (o.stagedLevel.getD 0), byteOf o.watch.irregular] ++
  natBytes 2 (s.left o.hold.timer) ++
  [formCode o.hold.form, rejoinCode o.hold.rejoin] ++
  s.settings.block ++ s.changeBlock ++ natBytes 2 (s.left (some s.classDeadline)) ++
  natBytes 2 (match s.sampler.prev with | some x => x.toNat | none => 0) ++ natBytes 2 s.sampler.stall ++
  match o.stagedMap with
  | some m => mapBlock m
  | none => List.replicate 15 0

/-- The eleven totals in the order of R132, four bytes each. -/
def Totals.block (t : Totals) : List Byte :=
  ([t.coinsA, t.coinsB, t.accepted, t.added, t.paid, t.cleared, t.lost, t.jamsA, t.jamsB, t.noiseA, t.noiseB].map
    fun x => natBytes 4 x.toNat).flatten

/-- The lockout senses: bit 2n is L1 and bit 2n + 1 is L2 of slot n, 1 asserted. -/
def State.sensesNat (s : State) : Nat :=
  allSlots.foldr (fun i acc => bit (s.senseAsserted i .c1) + 2 * bit (s.senseAsserted i .c2) + 4 * acc) 0

/-- QUERY-COIN (R149), 61 bytes. -/
def State.coinBody (s : State) : List Byte :=
  let c := s.coin
  let set := c.settings
  [byteOf c.bank, s.coinStateByte] ++
  (match c.pulse with
   | none => [0, 0]
   | some p =>
     [byteOf (p.units + 16 * p.slot.val + 128 * bit (decide (p.drive = .c2))), byteOf (s.left (some p.ends))]) ++
  [byteOf (c.meter1.phase.code + 4 * c.meter2.phase.code +
     16 * bit (match c.pulse with | some p => !p.on | none => false)),
   byteOf c.meter1.pending, byteOf c.meter2.pending, byteOf (16 * set.valueA + set.valueB)] ++
  natBytes 2 (set.pulseMin + 16384 * (meterCode set.meterA).toNat) ++
  natBytes 2 (set.pulseMax + 16384 * (meterCode set.meterB).toNat) ++
  [byteOf set.bankLimit, byteOf set.meterOn, byteOf set.meterOff] ++
  natBytes 2 s.sensesNat ++ c.totals.block

/-- QUERY-TEST part 0: tester state, wait list and the record less its counts (R170, R184). -/
def Tester.part0 (t : Tester) : List Byte :=
  (match t.run with
   | none => [0, 0xFF, 0, 0, 0]
   | some r => [1, byteOf r.slot.val] ++ lineBytes r.pattern) ++
  padded 7 0xFF (slotCodes t.wait) ++
  match t.record with
  | none => List.replicate 12 0
  | some r =>
    [1, byteOf r.slot.val] ++ lineBytes r.seed ++ natBytes 2 r.count ++ natBytes 2 r.done ++
    natBytes 2 r.signature.toNat ++ [testVerdictCode r.verdict]

/-- QUERY-TEST parts 1 and 2: the counts of twelve lines from `first` (R184). DESIGN CHOICE (log 35): R184 has the
controller compare the slot, seed and patterns done carried in each reply, the table of 11_message_layouts.md gives these
three to part 0 alone; the layout is the table's. -/
def Tester.partCounts (t : Tester) (first : Nat) : List Byte :=
  match t.record with
  | none => List.replicate 49 0
  | some r =>
    1 :: (((allLines.drop first).take 12).map fun n =>
      natBytes 2 r.cannotAssert[n.val] ++ natBytes 2 r.heldAsserted[n.val]).flatten

/-- QUERY-TEST's fields for a part 0, 1 or 2 (R184). -/
def Tester.body (t : Tester) (part : Byte) : List Byte :=
  part :: (if part = 0 then t.part0 else if part = 1 then t.partCounts 0 else t.partCounts 12)

/-! ## Queueing the notices whose body is a snapshot of the state -/

/-- A SLOT notice (R6). -/
def State.slotNotice (s : State) (i : SlotNo) : State := s.notice (.slot i) (s.slotNoticeBody i)

/-- An OUTPUT notice (R66). -/
def State.outNotice (s : State) (cause : OutCause) : State := s.notice .output (s.out.noticeBody cause)

/-- A COIN notice (R148). -/
def State.coinNotice (s : State) (cause : CoinCause) : State := s.notice .coin (s.coinNoticeBody cause)

/-- A SUPPLY notice (R20). -/
def State.supplyNotice (s : State) : State := s.notice .supply s.supply.noticeBody

end Sys2Proof.Machine
end

