-- ==== Sys2Proof/Machine/SlotPower.lean ====
section
/-! DEFINITION. The Slot Table's transitions and the Power Supervisor (R6 to R19): changes of slot state, the switch,
the start permit and its wait list, power-on, power-off, the rest and warm-up timers, and shed. -/

namespace Sys2Proof.Machine

/-! ## The bridge as the sync source (R67, R69, R70) -/

/-- BRIDGE becomes the sync source: blanked becomes yes and a bridge frame starts at this moment at the programmed
timing (R69, R70). -/
def State.toBridge (s : State) : State :=
  s.modOut fun o => { o with sync := .bridge, blanked := true, current := o.timing, frameStart := s.now }

/-! ## Changes of slot state (R6, R15 to R17) -/

/-- A change of state; it queues a SLOT notice when the state is another one (R6, log 19). -/
def State.setState (s : State) (i : SlotNo) (st : SlotState) : State :=
  let t := s.modSlot i fun sl => { sl with state := st }
  if (s.slot i).state = st then t else t.slotNotice i

/-- Entry to FAULT with a reason, which becomes the last fault (R17). -/
def State.faultSlot (s : State) (i : SlotNo) (r : Result) : State :=
  (s.modSlot i fun sl => { sl with lastFault := some r }).setState i .fault

/-- The end of a step or test puts the slot in a state, or in FAULT (SYNC_LOST) when a hold timer expired while the
step ran (R160). -/
def State.settleTo (s : State) (i : SlotNo) (st : SlotState) : State :=
  if (s.slot i).faultAtEnd then (s.modSlot i fun sl => { sl with faultAtEnd := false }).faultSlot i .syncLost
  else s.setState i st

/-- A READY slot becomes ACTIVE, which the Slot Table allows only for the source slot (R16). -/
def State.activate (s : State) (i : SlotNo) : State :=
  if s.out.source = some i ∧ (s.slot i).state = .ready then s.setState i .active else s

/-- The step result and fault reason a verdict names (R30, R15). -/
def Verdict.result : Verdict → Result
  | .good => .ok
  | .noVsync => .noVsync
  | .noHsync => .noHsync
  | .linesOver => .linesOver
  | .outOfRange => .outOfRange

/-- The state a verdict leaves: READY after GOOD, otherwise FAULT with the verdict as reason (R15). -/
def State.settleVerdict (s : State) (i : SlotNo) (v : Verdict) : State :=
  match v with
  | .good => s.settleTo i .ready
  | v => if (s.slot i).faultAtEnd then s.settleTo i .fault else s.faultSlot i v.result

/-- A probe's record is stored as last probe and its verdict moves the slot (R15). -/
def State.applyProbe (s : State) (i : SlotNo) (p : ProbeRecord) : State :=
  (s.modSlot i fun sl => { sl with lastProbe := some p, probeReturn := none }).settleVerdict i p.verdict

/-! ## The start permit (R8, R9) -/

/-- The winner of a grant: the changeover target if it waits, otherwise the slot that has waited longest (R8). -/
def State.permitWinner (s : State) : Option SlotNo :=
  match s.target with
  | some t => if s.supply.waitList.contains t then some t else s.supply.waitList.head?
  | none => s.supply.waitList.head?

/-- A grant: the winner leaves the list, holds the permit, its switch closes and its warm-up begins (R8, R9). -/
def State.grantTo (s : State) (i : SlotNo) : State :=
  let s := s.modSupply fun p => { p with permit := some i, waitList := p.waitList.erase i }
  let s := s.modSlot i fun sl => { sl with power := true, warm := some (s.after (s.profileNat i (·.warmUp))) }
  s.setState i .starting

/-- The grant test (R8). -/
def State.grantTest (s : State) : State :=
  if s.supply.permit.isNone && !s.supply.dip then
    match s.permitWinner with
    | some i => s.grantTo i
    | none => s
  else s

/-- A slot becomes WAITING and joins the tail of the wait list; the grant test follows (R7, R8). -/
def State.joinWait (s : State) (i : SlotNo) : State :=
  let s := s.modSupply fun p =>
    { p with waitList := if p.waitList.contains i then p.waitList else p.waitList ++ [i] }
  (s.setState i .waiting).push [.grant]

/-- A slot leaves the wait list (R8). -/
def State.leaveWait (s : State) (i : SlotNo) : State :=
  s.modSupply fun p => { p with waitList := p.waitList.erase i }

/-- The permit is released if this slot holds it; the grant test follows (R8, R10). -/
def State.releasePermit (s : State) (i : SlotNo) : State :=
  if s.supply.permit = some i then (s.modSupply fun p => { p with permit := none }).push [.grant] else s

/-! ## The switch (R12 to R14) -/

/-- An opening of the switch: it clears last probe and shed-pending, stops the warm-up and starts the rest timer with
the profile's rest time (R12, R13, R14). It ends any stay of a state that a hold expiry left for a step's end
(R160, log 23). -/
def State.openSwitch (s : State) (i : SlotNo) : State :=
  s.modSlot i fun sl =>
    { sl with power := false, lastProbe := none, shedPending := false, warm := none, restWaiting := false
              faultAtEnd := false, rest := some (s.after (s.profileNat i (·.rest))) }

/-- What an opening of the outgoing slot's switch does while that slot is still the sync source: the bridge takes over
at once, and a BRIDGE stage ends (R108). -/
def State.outgoingOpened (s : State) (i : SlotNo) : State :=
  match s.chg with
  | none => s
  | some c =>
    if s.out.sync = .slot i then
      if c.stage = .fade then s.toBridge
      else if c.stage = .bridge then s.toBridge.push [.bridgeEnd]
      else s
    else s

/-- A power-down: the switch opens, the slot becomes RESTING, a permit it holds is released (R13, R19). -/
def State.powerDown (s : State) (i : SlotNo) : State :=
  (((s.openSwitch i).setState i .resting).releasePermit i).outgoingOpened i

/-- What a POWER_OFF step does by state (R13). The step itself ends OK. -/
def State.powerOff (s : State) (i : SlotNo) : State :=
  match (s.slot i).state with
  | .starting | .warm | .ready | .active => s.powerDown i
  | .fault => if (s.slot i).power then s.powerDown i else s
  | .waiting => (s.leaveWait i).setState i .off
  | .off | .resting | .probing | .testing | .unconfigured => s

/-- The mark of a power-on that waits on the rest timer (R7). -/
def State.markRest (s : State) (i : SlotNo) (b : Bool) : State := s.modSlot i fun sl => { sl with restWaiting := b }

/-- What a POWER_ON step asks by state: it ends OK at once on a slot that is powered, and otherwise waits for the
warm-up (R7). -/
def State.powerOn (s : State) (i : SlotNo) : State :=
  match (s.slot i).state with
  | .off => s.joinWait i
  | .resting => s.markRest i true
  | .fault =>
    if (s.slot i).power then s.push [.stepEnd i .ok none]
    else if (s.slot i).rest.isSome then s.markRest i true
    else s.joinWait i
  | .waiting | .starting => s
  | .warm | .ready | .active | .probing | .testing | .unconfigured => s.push [.stepEnd i .ok none]

/-- The end of a rest timer (R14). A slot in TESTING keeps its state and its test return state, and the timer stops (R165). -/
def State.restEnds (s : State) (i : SlotNo) : State :=
  let sl := s.slot i
  let s := s.modSlot i fun x => { x with rest := none, restWaiting := false }
  match sl.state with
  | .resting => if sl.restWaiting then s.joinWait i else s.setState i .off
  | .fault => if sl.restWaiting && !sl.power then s.joinWait i else s
  | _ => s

/-- Whether the slot's running step is a POWER_ON (R29). -/
def State.powerOnRuns (s : State) (i : SlotNo) : Bool := decide ((s.queue i).step = some .powerOn)

/-- The end of a warm-up: the slot becomes WARM, the permit is released, a waiting POWER_ON step ends OK (R10). -/
def State.warmUpEnds (s : State) (i : SlotNo) : State :=
  let s := (s.modSlot i fun sl => { sl with warm := none }).settleTo i .warm
  let s := s.push ((if s.powerOnRuns i then [.stepEnd i .ok none] else []) ++ [.shed i])
  s.releasePermit i

/-! ## Shed (R19) -/

/-- Whether the three conditions of a shed hold together (R19). -/
def State.shedReady (s : State) (i : SlotNo) : Bool :=
  let sl := s.slot i
  sl.shedPending && (s.queue i).isEmpty && !s.isTarget i &&
    (decide (sl.state = .warm) || decide (sl.state = .ready) || (decide (sl.state = .fault) && sl.power))

/-- The shed test: a shed-pending slot whose conditions hold is powered off (R19). -/
def State.shedTest (s : State) (i : SlotNo) : State := if s.shedReady i then s.powerDown i else s

/-- A slot that becomes the changeover target loses its shed-pending flag (R19, R90, R110). -/
def State.clearShed (s : State) : Option SlotNo → State
  | none => s
  | some i => s.modSlot i fun sl => { sl with shedPending := false }

end Sys2Proof.Machine
end

