-- ==== Sys2Proof/Machine/Coins.lean ====
section
/-! DEFINITION. The Coin Unit (R132 to R151): closures, the bank and its totals, jams, service credit, payout pulses and
meters. -/

namespace Sys2Proof.Machine

/-! ## The two inputs and the two meters -/

/-- A coin input's record. -/
def CoinUnit.input (c : CoinUnit) : CoinInput → CoinIn
  | .a => c.inA
  | .b => c.inB

/-- A coin input's new record. -/
def CoinUnit.setInput (c : CoinUnit) (x : CoinInput) (r : CoinIn) : CoinUnit :=
  match x with
  | .a => { c with inA := r }
  | .b => { c with inB := r }

/-- A meter's record. -/
def CoinUnit.meter (c : CoinUnit) : MeterNo → Meter
  | .one => c.meter1
  | .two => c.meter2

/-- A meter's new record. -/
def CoinUnit.setMeter (c : CoinUnit) (m : MeterNo) (r : Meter) : CoinUnit :=
  match m with
  | .one => { c with meter1 := r }
  | .two => { c with meter2 := r }

/-- The coin value of an input (R133). -/
def CoinSettings.value (c : CoinSettings) : CoinInput → Nat
  | .a => c.valueA
  | .b => c.valueB

/-- The meter a coin of an input is counted on (R133). -/
def CoinSettings.meterFor (c : CoinSettings) : CoinInput → Option MeterNo
  | .a => c.meterA
  | .b => c.meterB

/-- A total raised; it wraps at 4,294,967,296 (R132). -/
def raise (t : BitVec 32) (n : Nat) : BitVec 32 := t + BitVec.ofNat 32 n

/-- The totals with one more coin of an input. -/
def Totals.countCoin (t : Totals) : CoinInput → Totals
  | .a => { t with coinsA := raise t.coinsA 1 }
  | .b => { t with coinsB := raise t.coinsB 1 }

/-- The totals with one more jam of an input. -/
def Totals.countJam (t : Totals) : CoinInput → Totals
  | .a => { t with jamsA := raise t.jamsA 1 }
  | .b => { t with jamsB := raise t.jamsB 1 }

/-- The totals with one more noise closure of an input. -/
def Totals.countNoise (t : Totals) : CoinInput → Totals
  | .a => { t with noiseA := raise t.noiseA 1 }
  | .b => { t with noiseB := raise t.noiseB 1 }

/-! ## The bank (R136, R137, R140) -/

/-- The part of an addition the bank cannot hold (R136). -/
def excess (bank n : Nat) : Nat := bank + n - 255

/-- Units are added to the bank, which saturates at 255; the excess is added to units lost (R136, R140). -/
def CoinUnit.addUnits (c : CoinUnit) (n : Nat) : CoinUnit :=
  { c with bank := min 255 (c.bank + n), totals := { c.totals with lost := raise c.totals.lost (excess c.bank n) } }

/-- The units of a coin are accepted into the bank (R136). -/
def CoinUnit.acceptCoin (c : CoinUnit) (n : Nat) : CoinUnit :=
  let c := { c with totals := { c.totals with accepted := raise c.totals.accepted n } }
  c.addUnits n

/-- Service credit is added to the bank (R140). -/
def CoinUnit.addCredit (c : CoinUnit) (n : Nat) : CoinUnit :=
  let c := { c with totals := { c.totals with added := raise c.totals.added n } }
  c.addUnits n

/-- The whole bank is cleared (R140). -/
def CoinUnit.clearCredit (c : CoinUnit) : CoinUnit :=
  { c with bank := 0, totals := { c.totals with cleared := raise c.totals.cleared c.bank } }

/-- The units of a pulse leave the bank (R143). -/
def CoinUnit.payUnits (c : CoinUnit) (n : Nat) : CoinUnit :=
  { c with bank := c.bank - n, totals := { c.totals with paid := raise c.totals.paid n } }

/-! ## Meters (R147) -/

/-- A meter pulse begins: ON for the on time in force, keeping the off time in force (R133, R147). -/
def Meter.begin (m : Meter) (now : Nat) (set : CoinSettings) : Meter :=
  { m with phase := .on, ends := now + ms set.meterOn, offTime := set.meterOff }

/-- A meter that is IDLE with a count above 0 begins a pulse (R147). -/
def Meter.wake (m : Meter) (now : Nat) (set : CoinSettings) : Meter :=
  if m.phase = .idle ∧ 0 < m.pending then m.begin now set else m

/-- One more coin on a meter, up to 255 (R136). -/
def Meter.count (m : Meter) (now : Nat) (set : CoinSettings) : Meter :=
  Meter.wake { m with pending := min 255 (m.pending + 1) } now set

/-- A coin is counted on the meter it is assigned to (R136). -/
def CoinUnit.countMeter (c : CoinUnit) (x : CoinInput) (now : Nat) : CoinUnit :=
  match c.settings.meterFor x with
  | none => c
  | some m => c.setMeter m ((c.meter m).count now c.settings)

/-- The end of a meter's ON phase (R147). -/
def Meter.onEnds (m : Meter) (now : Nat) : Meter := { m with phase := .off, ends := now + ms m.offTime }

/-- The end of a meter's OFF phase: one coin less, and the next pulse if any is left (R147). -/
def Meter.offEnds (m : Meter) (now : Nat) (set : CoinSettings) : Meter :=
  Meter.wake { m with pending := m.pending - 1, phase := .idle } now set

/-! ## Payout (R142, R143) -/

/-- A payout pulse begins: its units leave the bank and its drive is asserted (R143). -/
def State.beginPulse (s : State) (i : SlotNo) (p : CoinProfile) : State :=
  let s := s.modCoin fun c => c.payUnits p.units
  let s := s.modCoin fun c =>
    { c with pulse := some { slot := i, drive := p.drive, units := p.units, on := true, ends := s.after p.onTime,
                             offTime := p.offTime } }
  s.coinNotice .payout

/-- The payout test: a pulse begins when every term of R142 holds. -/
def State.payoutTest (s : State) : State :=
  match s.coin.pulse, s.payoutProfile with
  | none, some (i, p) =>
    if !s.senseAsserted i p.drive && decide (p.units ≤ s.coin.bank) then s.beginPulse i p else s
  | _, _ => s

/-- A pulse in flight to a slot is abandoned, its units staying paid (R145). -/
def State.abandonPulse (s : State) (i : SlotNo) : State :=
  match s.coin.pulse with
  | some p => if p.slot = i then s.modCoin fun c => { c with pulse := none } else s
  | none => s

/-- The end of a pulse's on time: the drive is released (R143). -/
def State.pulseOnEnds (s : State) (p : Pulse) : State :=
  s.modCoin fun c => { c with pulse := some { p with on := false, ends := s.after p.offTime } }

/-- The end of a pulse's off time: the pulse is over, the payout test is made and FADE may end (R93, R143). -/
def State.pulseOffEnds (s : State) : State :=
  (s.modCoin fun c => { c with pulse := none }).push [.payout, .fade]

/-! ## Closures (R134, R136, R139) -/

/-- A coin is banked: its value, its meter, then the payout test and the COIN notice (R136, log 27). -/
def State.bankCoin (s : State) (x : CoinInput) : State :=
  let s := s.modCoin fun c => (c.acceptCoin (c.settings.value x)).countMeter x s.now
  s.payoutTest.coinNotice (.coin x)

/-- A coin input takes a closure state. -/
def State.setClosure (s : State) (x : CoinInput) (st : Closure) : State :=
  s.modCoin fun c => c.setInput x { c.input x with state := st }

/-- An input goes to JAM (R139). -/
def State.jam (s : State) (x : CoinInput) : State :=
  let s := (s.setClosure x .jam).modCoin fun c => { c with totals := c.totals.countJam x }
  s.coinNotice (.jam x)

/-- An input leaves JAM (R139). -/
def State.clearJam (s : State) (x : CoinInput) : State := (s.setClosure x .idle).coinNotice (.jamCleared x)

/-- A closing of a switch begins a closure (R134). -/
def State.coinCloses (s : State) (x : CoinInput) : State :=
  s.modCoin fun c => c.setInput x { state := .timing, since := s.now, closed := true }

/-- An opening of a switch judges the closure: noise, a coin, or the end of a JAM; a closure longer than the maximum is
a JAM that ends here (R134, R139, log 21). -/
def State.coinOpens (s : State) (x : CoinInput) : State :=
  let r := s.coin.input x
  let set := s.coin.settings
  let t := s.now - r.since
  let s := s.modCoin fun c => c.setInput x { r with closed := false }
  match r.state with
  | .idle => s
  | .jam => s.clearJam x
  | .timing =>
    if t < ms set.pulseMin then
      (s.setClosure x .idle).modCoin fun c => { c with totals := c.totals.countNoise x }
    else if t ≤ ms set.pulseMax then
      State.bankCoin ((s.setClosure x .idle).modCoin fun c => { c with totals := c.totals.countCoin x }) x
    else (s.jam x).clearJam x

/-- A change of a coin switch's level; a level it already has is no change (R134). -/
def State.coinSwitch (s : State) (x : CoinInput) (closed : Bool) : State :=
  if (s.coin.input x).closed = closed then s
  else if closed then s.coinCloses x
  else s.coinOpens x

/-- A closure reaches the pulse maximum with the switch still closed (R134, R139). -/
def State.coinMaximum (s : State) (x : CoinInput) : State :=
  let r := s.coin.input x
  if r.state = .timing then (s.reach (r.since + ms s.coin.settings.pulseMax)).jam x else s

/-- New settings meet a closure in progress: one that has lasted the new maximum goes to JAM (R133). -/
def State.rejudge (s : State) (x : CoinInput) : State :=
  let r := s.coin.input x
  if r.state = .timing ∧ ms s.coin.settings.pulseMax ≤ s.now - r.since then s.jam x else s

end Sys2Proof.Machine
end

