-- ==== Sys2Proof/Machine/Harness.lean ====
section
/-! DEFINITION. The Harness Tester (R163 to R171): the tester and its wait list, the patterns, the readback, the
signature and the end of a test. -/

namespace Sys2Proof.Machine

/-! ## Patterns and signatures (R154, R166, R167) -/

/-- The next pattern: doubled to 24 bits, exclusive-ored with C20001h when a 1 was doubled out (R166). -/
def nextPattern (p : Lines) : Lines := if p.msb then (p <<< 1) ^^^ 0xC20001 else p <<< 1

/-- One fold of a 16-bit signature: doubled, exclusive-ored with 1021h when a 1 was doubled out, then with the value
(R154, R167). -/
def foldSignature (sig value : Half) : Half := (if sig.msb then (sig <<< 1) ^^^ 0x1021 else sig <<< 1) ^^^ value

/-- The fold value of a readback: its low 16 bits exclusive-ored with its high 8 bits (R167). -/
def foldValue (readback : Lines) : Half :=
  readback.extractLsb' 0 16 ^^^ (readback.extractLsb' 16 8).setWidth 16

/-- Counts raised by 1 on the lines of a set (R167). -/
def raiseCounts (counts : Vector Nat 24) (l : Lines) : Vector Nat 24 :=
  perLine fun n => counts[n.val] + bit (l.getLsbD n.val)

/-- A test record after one pattern has been read back (R167). -/
def TestRecord.read (r : TestRecord) (pattern readback : Lines) : TestRecord :=
  { r with
    done := r.done + 1
    signature := foldSignature r.signature (foldValue readback)
    cannotAssert := raiseCounts r.cannotAssert (pattern &&& ~~~readback)
    heldAsserted := raiseCounts r.heldAsserted (readback &&& ~~~pattern) }

/-- PASS when all 48 counts are 0, FAIL otherwise (R168). -/
def TestRecord.judge (r : TestRecord) : TestVerdict :=
  if r.cannotAssert.toList.all (· == 0) && r.heldAsserted.toList.all (· == 0) then .pass else .fail

/-! ## The tester (R164, R165) -/

/-- Whether the check of a HARNESS step refuses the slot as it stands (R28, R31). -/
def State.harnessRefused (s : State) (i : SlotNo) : Bool :=
  s.isTarget i ||
    (match (s.slot i).state with
     | .active | .starting | .waiting | .resting | .probing => true
     | _ => false)

/-- The seed and count of the slot's running HARNESS step. -/
def State.harnessStep (s : State) (i : SlotNo) : Option (Lines × Nat) :=
  match (s.queue i).step with
  | some (.harness seed count) => some (seed, count)
  | _ => none

/-- A test begins: RUNNING with the seed driven, a new record, and the slot in TESTING (R165). -/
def State.beginTest (s : State) (i : SlotNo) : State :=
  match s.harnessStep i with
  | none => s
  | some (seed, count) =>
    let s := s.modTester fun t =>
      { t with
        run := some { slot := i, pattern := seed, ends := s.after 2 }
        record := some { slot := i, seed := seed, count := count, done := 0, signature := 0,
                         cannotAssert := Vector.replicate 24 0, heldAsserted := Vector.replicate 24 0,
                         verdict := none } }
    let s := s.modSlot i fun sl => { sl with testReturn := some sl.state }
    (s.setState i .testing).push [.heldCheck i]

/-- A HARNESS step that passed its check takes the FREE tester or joins the tail of the wait list (R164). -/
def State.askTester (s : State) (i : SlotNo) : State :=
  if s.tester.run.isNone && s.tester.wait.isEmpty then s.beginTest i
  else s.modTester fun t => { t with wait := t.wait ++ [i] }

/-- The tester, FREE, is handed to the head of its wait list, whose check is made again: the test begins, or the step
ends IN_USE and the tester is handed on in the same way (R31, R164). -/
def State.handTester (s : State) : State :=
  match s.tester.run, s.tester.wait with
  | none, i :: rest =>
    let t := s.modTester fun t => { t with wait := rest }
    if t.harnessRefused i then t.push [.stepEnd i .inUse none, .tester] else t.beginTest i
  | _, _ => s

/-- A HARNESS step leaves the wait list (R164). -/
def State.leaveTester (s : State) (i : SlotNo) : State :=
  s.modTester fun t => { t with wait := t.wait.filter fun j => decide (j ≠ i) }

/-! ## The end of a test (R168, R169) -/

/-- The slot goes back to its test return state, which is cleared (R16). -/
def State.leaveTesting (s : State) (i : SlotNo) : State :=
  let back := ((s.slot i).testReturn).getD .off
  (s.modSlot i fun sl => { sl with testReturn := none }).settleTo i back

/-- The tester becomes FREE, its record taking a verdict. -/
def State.freeTester (s : State) (v : TestVerdict) : State :=
  s.modTester fun t => { t with run := none, record := t.record.map fun r => { r with verdict := some v } }

/-- A running test ends early, INCOMPLETE (R169). -/
def State.stopTest (s : State) : State := s.freeTester .incomplete

/-- The end of a pattern's 2 ms: the readback is counted and folded; then the next pattern is driven, or the test
ends with its verdict (R167, R168). `high` has bit n set where the sense of line n reads high. -/
def State.patternEnds (s : State) (r : TestRun) (high : Lines) : State :=
  match s.profile r.slot, s.tester.record with
  | some p, some before =>
    let after := before.read r.pattern (readLines p.polarity high)
    let s := s.modTester fun t => { t with record := some after }
    if after.done < after.count then
      s.modTester fun t =>
        { t with run := some { r with pattern := nextPattern r.pattern, ends := s.after 2 } }
    else
      let v := after.judge
      let s := (s.freeTester v).leaveTesting r.slot
      s.push [.heldCheck r.slot, .stepEnd r.slot (if v = .pass then .ok else .harnessFail) none, .tester]
  | _, _ => s

end Sys2Proof.Machine
end

