-- ==== Sys2Proof/Machine/Picture.lean ====
section
/-! DEFINITION. The Picture Sampler (R152 to R156): the grid, the samples, the close of a frame and the stall count. -/

namespace Sys2Proof.Machine

/-- The sampler at a SETTLE completion: SAMPLING afresh; line 0 has opened if a line pulse of this tick has been taken
(R152, R153). -/
def Sampler.begin (now : Nat) (coincident : Bool) : Sampler :=
  { sampling := true, running := 0xFFFF, prev := none, stall := 0, line := if coincident then some 0 else none,
    lineAt := now, point := 0 }

/-- The sampler goes IDLE; the stall count and the previous signature keep their values (R152). -/
def Sampler.stop (x : Sampler) : Sampler := { x with sampling := false, line := none, point := 0 }

/-- A line of the frame opens (R153). -/
def Sampler.openLine (x : Sampler) (now : Nat) : Sampler :=
  { x with line := some (match x.line with | none => 0 | some n => n + 1), lineAt := now, point := 0 }

/-- A frame opens, with line 0 if a line pulse of this tick has been taken (R153, R155). -/
def Sampler.openFrame (x : Sampler) (now : Nat) (coincident : Bool) : Sampler :=
  { x with running := 0xFFFF, line := if coincident then some 0 else none, lineAt := now, point := 0 }

/-- The sampler takes a line pulse of the source slot. -/
def Sampler.linePulse (x : Sampler) (now : Nat) : Sampler := if x.sampling then x.openLine now else x

/-- Whether a line is one of the 32 sampled ones: 24 + 6k for k from 0 to 31 (R153). -/
def sampledLine (n : Nat) : Bool := decide (24 ≤ n ∧ n ≤ 210 ∧ (n - 24) % 6 = 0)

/-- Ticks from a line pulse to point j of the line (R153). -/
def pointOffset (lineTicks j : Nat) : Nat := lineTicks / 6 + j * (lineTicks / 96)

/-- The value of a sample (R154). -/
def sampleValue (red green blue : Bool) : Half := BitVec.ofNat 16 (4 * bit red + 2 * bit green + bit blue)

/-- The line ticks of the source probe. -/
def Output.sourceLineTicks (o : Output) : Nat :=
  match o.sourceProbe.bind (·.derived) with
  | some d => d.lineTicks
  | none => 0

/-- The tick of the grid point the sampler takes next; none when no point is left on the present line (R153). -/
def State.nextPoint (s : State) : Option Nat :=
  match s.sampler.line with
  | none => none
  | some n =>
    if s.sampler.sampling && sampledLine n && decide (s.sampler.point < 64) then
      some (s.sampler.lineAt + pointOffset s.out.sourceLineTicks s.sampler.point)
    else none

/-- The sample at the next grid point is folded in (R153, R154). -/
def State.gridSample (s : State) (red green blue : Bool) : State :=
  match s.nextPoint with
  | none => s
  | some t =>
    (s.reach t).modSampler fun x =>
      { x with running := foldSignature x.running (sampleValue red green blue), point := x.point + 1 }

/-- The stall count after a frame with a signature (R155). -/
def nextStall (prev : Option Half) (running : Half) (stall : Nat) : Nat :=
  match prev with
  | none => stall
  | some p => if p = running then min 65535 (stall + 1) else 0

/-- The close of a frame (R155). -/
def Sampler.close (x : Sampler) : Sampler :=
  { x with stall := nextStall x.prev x.running x.stall, prev := some x.running }

/-- Whether a board is stalled: its stall limit is not 0 and the stall count has reached it (R156). -/
def State.stalled (s : State) (i : SlotNo) : Bool :=
  match s.profile i with
  | some p => decide (p.stallLimit ≠ 0) && decide (p.stallLimit ≤ s.sampler.stall)
  | none => false

/-- A stall is found: the count becomes 0 and a STALL notice is queued (R156). -/
def State.declareStall (s : State) (i : SlotNo) : State :=
  match s.profile i with
  | some p =>
    let s := s.modSampler fun x => { x with stall := 0 }
    s.notice .stall (stallNoticeBody i (s.sampler.prev.getD 0) p.stallLimit p.stallPolicy)
  | none => s

end Sys2Proof.Machine
end

