-- ==== Sys2Proof/Machine/Timing.lean ====
section
/-! DEFINITION. The Timing Unit (R43 to R64): probe requests and their wait list, the probe procedure on an engine, the
arithmetic and the probe result record. -/

namespace Sys2Proof.Machine

/-! ## Pulse levels (R43) -/

/-- The pulse level after a window: the level held for the shorter time, unchanged when the two are equal. True is the
higher level. -/
def nextPulseLevel (high : Bool) (lowTicks : Nat) : Bool :=
  if lowTicks < windowTicks - lowTicks then false
  else if windowTicks - lowTicks < lowTicks then true
  else high

/-! ## The delayed inputs (R42) -/

/-- A slot's delayed line sync takes the level of an edge (R42, log 32). -/
def State.setLineLevel (s : State) (e : LineEdge) : State := s.modTap e.slot fun t => { t with lineHigh := e.high }

/-- A slot's delayed frame sync takes the level of an edge, of a pulse of any width (R42, log 32). -/
def State.setFrameLevel (s : State) (e : FrameEdge) : State := s.modTap e.slot fun t => { t with frameHigh := e.high }

/-! ## Requests and engines (R46 to R49) -/

/-- The record of a probe that starts now (R50). -/
def Measure.start (r : ProbeRequest) (now : Nat) : Measure :=
  { req := r, phase := .awaitFirst, watchFrom := now, firstAt := none, line := .notStarted, countA := none,
    countB := none, opening := false, released := false }

/-- An engine that is FREE takes the head of the probe wait list (R48). -/
def State.takeHead (s : State) (k : EngineNo) : State :=
  match s.engine k, s.probeList with
  | none, r :: rest => State.setEngine { s with probeList := rest } k (some (Measure.start r s.now))
  | _, _ => s

/-- Every FREE engine takes a request while the list holds one (R48, log 13). -/
def State.takeEngines (s : State) : State := (s.takeHead 0).takeHead 1

/-- A WORK request joins the tail of the list (R46, R47). -/
def State.placeWork (s : State) (i : SlotNo) : State :=
  State.takeEngines { s with probeList := s.probeList ++ [{ kind := .work, slot := i }] }

/-- An OUTPUT request goes to the head of the list, unless one is present (R47, R81). -/
def State.placeOutput (s : State) (i : SlotNo) : State :=
  if s.outputRequest then s
  else State.takeEngines { s with probeList := { kind := .output, slot := i } :: s.probeList }

/-- The requests that stay when those of one kind and slot leave the list. -/
def dropRequest (r : ProbeRequest) (l : List ProbeRequest) : List ProbeRequest := l.filter fun x => decide (x ≠ r)

/-- Whether an engine measures a request that has not been released. -/
def State.measures (s : State) (k : EngineNo) (r : ProbeRequest) : Bool :=
  match s.engine k with
  | some m => decide (m.req = r) && !m.released
  | none => false

/-- An engine that measures the request is freed at once, with no result (R49). -/
def State.stopOn (s : State) (k : EngineNo) (r : ProbeRequest) : State :=
  if s.measures k r then s.setEngine k none else s

/-- An engine that measures the request runs on for no one (R49). -/
def State.releaseOn (s : State) (k : EngineNo) (r : ProbeRequest) : State :=
  if s.measures k r then s.setEngine k ((s.engine k).map fun m => { m with released := true }) else s

/-- A withdrawal that stops: by ABORT-WORK or a hold expiry (R49). -/
def State.stopWork (s : State) (i : SlotNo) : State :=
  let r : ProbeRequest := { kind := .work, slot := i }
  ((State.stopOn { s with probeList := dropRequest r s.probeList } 0 r).stopOn 1 r).takeEngines

/-- A withdrawal that releases (R49). -/
def State.releaseRequest (s : State) (r : ProbeRequest) : State :=
  (State.releaseOn { s with probeList := dropRequest r s.probeList } 0 r).releaseOn 1 r

/-- The Output Path withdraws its OUTPUT request for a slot (R49, R81). -/
def State.withdrawOutput (s : State) (i : SlotNo) : State := s.releaseRequest { kind := .output, slot := i }

/-! ## Arithmetic (R56 to R61) -/

/-- The class of a stored line rate (R60). -/
def classOf (rate : Nat) : ScanClass :=
  if 14500 ≤ rate ∧ rate ≤ 16999 then .low
  else if 23000 ≤ rate ∧ rate ≤ 25999 then .medium
  else if 29500 ≤ rate ∧ rate ≤ 32999 then .high
  else .out

/-- The line rate in Hz, saturating (R56). -/
def lineRate (t256 : Nat) : Nat := min 65535 (rounded 12288000000 t256)

/-- The frame rate in cHz, saturating (R58). -/
def frameRate (t256 a b : Nat) : Nat := min 65535 (rounded 2457600000000 (t256 * (a + b)))

/-- Whether two counts are exactly one apart (R59). -/
def oneApart (a b : Nat) : Bool := decide (a = b + 1 ∨ b = a + 1)

/-- The derived figures (R56 to R60). -/
def derive (t256 a b : Nat) : Derived :=
  { lineRate := lineRate t256
    lineTicks := clamp 1400 3400 (rounded t256 256)
    frameLines := clamp 200 1023 a
    frameRate := frameRate t256 a b
    interlaced := oneApart a b
    cls := classOf (lineRate t256) }

/-- The verdict of a probe that met no failure (R61). -/
def goodVerdict (d : Derived) (a b : Nat) : Verdict :=
  if d.cls ≠ .out ∧ (200 ≤ a ∧ a ≤ 1023) ∧ (200 ≤ b ∧ b ≤ 1023) ∧ (4000 ≤ d.frameRate ∧ d.frameRate ≤ 7500) ∧
      (a = b ∨ oneApart a b = true) then .good
  else .outOfRange

/-- The record of a probe that met no failure (R62). -/
def goodRecord (t256 a b : Nat) : ProbeRecord :=
  let d := derive t256 a b
  { verdict := goodVerdict d a b, t256 := some t256, periods := none, countA := some a, countB := some b,
    derived := some d }

/-- The record of a probe that failed: the counts as they stood (R62). -/
def Measure.failRecord (m : Measure) (v : Verdict) : ProbeRecord :=
  { verdict := v
    t256 := match m.line with | .done t => some t | _ => none
    periods := match m.line with | .done _ => none | .running n _ => some n | .notStarted => some 0
    countA := m.countA, countB := m.countB, derived := none }

/-! ## The probe procedure (R50 to R55) -/

/-- The most ticks the line-period counter holds (R51). -/
def counterMax : Nat := 16777215

/-- The tick at which the frame watch reaches 100 ms (R53). -/
def Measure.watchEnd (m : Measure) : Nat := m.watchFrom + ms 100

/-- What a pulse makes of a probe: it goes on, or it ends with a record. -/
inductive ProbeStep
  | goes (m : Measure)
  | ends (p : ProbeRecord)
deriving DecidableEq, Repr

/-- A probe with both parts finished ends with its record (R54). -/
def Measure.finished (m : Measure) : ProbeStep :=
  match m.phase, m.line, m.countA, m.countB with
  | .framesDone, .done t, some a, some b => .ends (goodRecord t a b)
  | _, _, _, _ => .goes m

/-- A failure: of those that fall in one tick, NO_VSYNC comes before NO_HSYNC and that before LINES_OVER (R55). -/
def Measure.fails (m : Measure) (now : Nat) (v : Verdict) : ProbeStep :=
  .ends (m.failRecord (if m.watchEnd ≤ now then .noVsync else v))

/-- The line-period count at a line pulse; none when the counter has passed its maximum (R51). -/
def LinePeriod.linePulse (l : LinePeriod) (firstAt : Option Nat) (now : Nat) : Option LinePeriod :=
  match l with
  | .notStarted => some (if firstAt = some now then .notStarted else .running 0 now)
  | .running n start =>
    if counterMax < now - start then none
    else if n + 1 = 256 then some (.done (max 1 (now - start)))
    else some (.running (n + 1) start)
  | .done t => some (.done t)

/-- One more line in a frame's count; none when it would pass 1,023 (R52). -/
def oneMoreLine (n : Option Nat) : Option Nat := if n.getD 0 < 1023 then some (n.getD 0 + 1) else none

/-- A probe at a line pulse of its slot. `opens`: it opens the frame of a frame pulse of the same tick that is still to be
taken; it is not the running frame's, and is counted when that pulse is taken (R51, R52, log 3). -/
def Measure.linePulse (m : Measure) (now : Nat) (opens : Bool) : ProbeStep :=
  if m.phase = .awaitFirst then .goes m
  else
    match m.line.linePulse m.firstAt now with
    | none => m.fails now .noHsync
    | some l =>
      let m := { m with line := l }
      match m.phase with
      | .awaitFirst | .framesDone => m.finished
      | .countA =>
        if opens then .goes { m with opening := true }
        else
          match oneMoreLine m.countA with
          | some n => .goes { m with countA := some n, opening := false }
          | none => m.fails now .linesOver
      | .countB =>
        if opens then .goes { m with opening := true }
        else
          match oneMoreLine m.countB with
          | some n => .goes { m with countB := some n, opening := false }
          | none => m.fails now .linesOver

/-- A probe at a frame pulse of its slot. `coincident`: a line pulse of the same tick has been taken already, and
belongs to the frame that opens here, whether it stands in the ended frame's count or not (R50, R52, R53, log 3). -/
def Measure.framePulse (m : Measure) (now : Nat) (coincident : Bool) : ProbeStep :=
  let split (n : Nat) : Nat × Nat := if m.opening then (n, bit coincident) else splitFrame coincident n
  let m := { m with watchFrom := now, opening := false }
  match m.phase with
  | .awaitFirst =>
    .goes { m with phase := .countA, firstAt := some now, countA := some (bit coincident) }
  | .countA =>
    let (ended, next) := split (m.countA.getD 0)
    let m := { m with countA := some ended }
    if ended = 0 then .ends (m.failRecord .noHsync)
    else .goes { m with phase := .countB, countB := some next }
  | .countB =>
    let (ended, _) := split (m.countB.getD 0)
    let m := { m with countB := some ended }
    if ended = 0 then .ends (m.failRecord .noHsync)
    else Measure.finished { m with phase := .framesDone }
  | .framesDone => .goes m

/-! ## The end of a probe (R63) -/

/-- A probe ends: its engine becomes FREE and takes the next request, and the record is handed over, or discarded when
the probe was released (R48, R63). -/
def State.endProbe (s : State) (k : EngineNo) (p : ProbeRecord) : State :=
  match s.engine k with
  | none => s
  | some m =>
    let s := (s.setEngine k none).takeEngines
    if m.released then s
    else
      match m.req.kind with
      | .work => s.push [.probeDone m.req.slot p]
      | .output => s.push [.outputProbeDone m.req.slot p]

/-- An engine's probe takes what a pulse made of it. -/
def State.probeStep (s : State) (k : EngineNo) : ProbeStep → State
  | .goes m => s.setEngine k (some m)
  | .ends p => s.endProbe k p

/-- Whether an engine measures a slot (R44). -/
def State.engineOn (s : State) (k : EngineNo) (i : SlotNo) : Bool :=
  match s.engine k with
  | some m => decide (m.req.slot = i)
  | none => false

/-- An engine takes a line pulse of the slot it measures. -/
def State.engineLine (s : State) (k : EngineNo) (opens : Bool) : State :=
  match s.engine k with
  | none => s
  | some m => s.probeStep k (m.linePulse s.now opens)

/-- An engine takes a frame pulse of the slot it measures. -/
def State.engineFrame (s : State) (k : EngineNo) (coincident : Bool) : State :=
  match s.engine k with
  | none => s
  | some m => s.probeStep k (m.framePulse s.now coincident)

/-- The frame watch of an engine's probe reaches 100 ms: NO_VSYNC (R53). -/
def State.frameWatchEnds (s : State) (k : EngineNo) : State :=
  match s.engine k with
  | none => s
  | some m => (s.reach m.watchEnd).endProbe k (m.failRecord .noVsync)

/-- The line-period counter of an engine's probe would pass its maximum: NO_HSYNC, or NO_VSYNC when the frame watch
ends in the same tick (R51, R55). -/
def State.lineOverflows (s : State) (k : EngineNo) : State :=
  match s.engine k with
  | none => s
  | some m =>
    match m.line with
    | .running _ start =>
      let s := s.reach (start + counterMax + 1)
      s.probeStep k (m.fails s.now .noHsync)
    | _ => s

/-- A power trip during a PROBE step releases its request (R12, R49). -/
def State.releaseWork (s : State) (i : SlotNo) : State := s.releaseRequest { kind := .work, slot := i }

end Sys2Proof.Machine
end

