-- ==== Sys2Proof/Machine/WorkQueue.lean ====
section
/-! DEFINITION. The Work Runner (R25 to R41): turns, the check of a beginning step, the steps, the end of a step and
of an entry, the end of a step under ABORT-WORK, and the entries of the output path. -/

namespace Sys2Proof.Machine

/-! ## Turns and steps (R27 to R31) -/

/-- The entry at the place the runner names takes a change. -/
def Queue.modEntry (q : Queue) (who : Runner) (f : Entry → Entry) : Queue :=
  match who with
  | .output => { q with out := q.out.map f }
  | .controller => { q with ctrl := match q.ctrl with | [] => [] | e :: rest => f e :: rest }

/-- A queue with no running entry gives a turn to the output entry, or to the oldest controller entry (R27); an empty
one lets the Slot Table make its shed test (R19). -/
def State.turn (s : State) (i : SlotNo) : State :=
  let q := s.queue i
  if q.running.isSome then s
  else if q.out.isSome then (s.modQueue i fun q => { q with running := some .output }).push [.beginStep i]
  else if q.ctrl.isEmpty then s.shedTest i
  else (s.modQueue i fun q => { q with running := some .controller }).push [.beginStep i]

/-- Whether the IN_USE checks are waived: in the restart entry, and in one converted from it (R28, R39, R40). -/
def Entry.waived (e : Entry) : Bool := decide (e.kind = .restart) || e.waiver

/-- The check of a beginning step; none when it passes (R28). -/
def State.stepCheck (s : State) (i : SlotNo) (e : Entry) (st : WorkStep) : Option Result :=
  match st with
  | .powerOn | .pause _ => none
  | .powerOff =>
    if (decide ((s.slot i).state = .active) || s.isTarget i) && !e.waived then some .inUse else none
  | .harness _ _ => if s.harnessRefused i && !e.waived then some .inUse else none
  | .probe =>
    match (s.slot i).state with
    | .off | .resting | .waiting | .starting => some .notPowered
    | .fault => if (s.slot i).power then none else some .notPowered
    | _ => none

/-- A PROBE step that passed its check: the slot moves to PROBING unless it is ACTIVE, and a WORK request is placed
(R15, R30). -/
def State.beginProbe (s : State) (i : SlotNo) : State :=
  let t :=
    if (s.slot i).state = .active then s
    else (s.modSlot i fun sl => { sl with probeReturn := some sl.state }).setState i .probing
  (t.placeWork i).push [.targetCheck, .heldCheck i]

/-- A step that passed its check goes on by its kind (R29, R30, R31). -/
def State.startStep (s : State) (i : SlotNo) : WorkStep → State
  | .powerOn => s.powerOn i
  | .powerOff => (s.push [.heldCheck i, .stepEnd i .ok none]).powerOff i
  | .probe => s.beginProbe i
  | .harness _ _ => s.askTester i
  | .pause n => s.modQueue i fun q => { q with pauseEnd := some (s.after n) }

/-! ## The end of a step and of an entry (R32, R33) -/

/-- The running entry leaves its queue. -/
def Queue.dropRunning (q : Queue) (who : Runner) : Queue :=
  match who with
  | .output => { q with out := none, running := none, pauseEnd := none }
  | .controller => { q with ctrl := q.ctrl.tail, running := none, pauseEnd := none }

/-- The restart entry has ended or been converted: restart-under-way is cleared (R16). -/
def State.clearRestart (s : State) (i : SlotNo) : State := s.modSlot i fun sl => { sl with restartUnderWay := false }

/-- An entry ends: it leaves its queue, its outcome goes to a COMPLETION notice, to the changeover or to the output
path, or to no one when it was marked, and the queue gives its next turn (R32, R37, R38, R39). -/
def State.endEntry (s : State) (i : SlotNo) (who : Runner) (e : Entry) (r : Result) (p : Option ProbeRecord) : State :=
  let s := s.modQueue i fun q => q.dropRunning who
  match e.kind with
  | .controller tag => (s.complete tag (workCompletion i e.done r p)).push [.turn i]
  | .prepare => s.push (if e.marked then [.turn i] else [.prepareOutcome i r, .turn i])
  | .restart => (s.clearRestart i).push [.restartOutcome i r, .turn i]

/-! ## The steps of a prepare entry, and the beginning of a step (R28, R37) -/

/-- Whether a slot is READY with a last probe, so that nothing is left to prepare (R37, R96). -/
def Slot.measured (sl : Slot) : Bool := decide (sl.state = .ready) && sl.lastProbe.isSome

/-- The steps R37's table gives for a state. -/
def stepsFor (st : SlotState) (power probed : Bool) : List WorkStep :=
  match st with
  | .off | .resting | .waiting | .starting | .unconfigured => [.powerOn, .probe]
  | .fault => if power then [.probe] else [.powerOn, .probe]
  | .ready => if probed then [] else [.probe]
  | .warm | .probing | .active | .testing => [.probe]

/-- The steps of a prepare entry for a slot: by its state, and in TESTING by its test return state, none where that is
READY (R37, log 15; a READY slot without a last probe is measured, log 30). -/
def Slot.prepareSteps (sl : Slot) : List WorkStep :=
  stepsFor (if sl.state = .testing then sl.testReturn.getD .off else sl.state) sl.power sl.lastProbe.isSome

/-- The turn of a prepare entry placed without a step, for a slot in TESTING that was to return to READY. A slot that is
READY with its last probe lets it end OK; otherwise it takes the steps of the state the slot is then in. DESIGN CHOICE
(log 15). -/
def State.beginBare (s : State) (i : SlotNo) (e : Entry) : State :=
  let sl := s.slot i
  if sl.measured then s.endEntry i .output e .ok none
  else
    let steps := stepsFor sl.state sl.power sl.lastProbe.isSome
    (s.modQueue i fun q => { q with out := some { e with steps := steps } }).push [.beginStep i]

/-- The running entry's next step begins (R28). -/
def State.beginStep (s : State) (i : SlotNo) : State :=
  match (s.queue i).current with
  | none => s
  | some e =>
    match e.step with
    | none => if e.kind = .prepare ∧ e.steps = [] then s.beginBare i e else s
    | some st =>
      match s.stepCheck i e st with
      | some r => s.push [.stepEnd i r none]
      | none => s.startStep i st

/-! ## The end of a step (R27, R32, R38) -/

/-- An entry after one of its steps has ended. -/
def Entry.after (e : Entry) (r : Result) : Entry := if r = .ok then { e with done := e.done + 1 } else e

/-- Whether an entry goes on to its next step (R27, R32, R38). -/
def Entry.goesOn (e : Entry) (r : Result) : Bool :=
  decide (r = .ok) && !e.marked && decide ((e.after r).done < e.steps.length)

/-- The running step ends with a result: the next step begins at once, or the entry ends (R27, R32). -/
def State.stepEnds (s : State) (i : SlotNo) (r : Result) (p : Option ProbeRecord) : State :=
  let q := s.queue i
  match q.running, q.current with
  | some who, some e =>
    if e.goesOn r then
      (s.modQueue i fun q => { q.modEntry who (fun e => e.after r) with pauseEnd := none }).push [.beginStep i]
    else s.endEntry i who (e.after r) r p
  | _, _ => s

/-- A WORK probe has ended: the Slot Table stores and applies its record by the slot's state, and the step ends with
the result its verdict names (R15, R30, R63). -/
def State.workProbeDone (s : State) (i : SlotNo) (p : ProbeRecord) : State :=
  let sl := s.slot i
  let t :=
    match sl.state with
    | .probing | .ready => s.applyProbe i p
    | .fault => if sl.power then s.applyProbe i p else s
    | _ => s
  t.push [.targetCheck, .heldCheck i, .stepEnd i p.verdict.result (some p)]

/-! ## ABORT-WORK (R35, R36) -/

/-- A PROBING slot goes back to the state it had before (R15, R36). -/
def State.leaveProbing (s : State) (i : SlotNo) : State :=
  if (s.slot i).state = .probing then
    let back := ((s.slot i).probeReturn).getD .warm
    (s.modSlot i fun sl => { sl with probeReturn := none }).settleTo i back
  else s

/-- What ending a running POWER_ON step does where it stands (R11). -/
def State.abortPowerOn (s : State) (i : SlotNo) : State :=
  if (s.slot i).state = .waiting then (s.leaveWait i).settleTo i .off else s.markRest i false

/-- A step of a running controller entry is stopped where it stands (R36). -/
def State.abortStep (s : State) (i : SlotNo) : State :=
  match (s.queue i).step with
  | some .powerOn => s.abortPowerOn i
  | some .probe => (s.stopWork i).leaveProbing i
  | some (.harness _ _) =>
    if s.testRunsOn i then (s.stopTest.leaveTesting i).push [.tester] else s.leaveTester i
  | _ => s

/-- The COMPLETION notices of entries ended ABORTED, in order; `done` of the first is its own, of the others 0. -/
def State.completeAborted (s : State) (i : SlotNo) : List Entry → State
  | [] => s
  | e :: rest =>
    State.completeAborted
      (match e.kind with
       | .controller tag => s.complete tag (workCompletion i e.done .aborted none)
       | _ => s) i rest

/-- ABORT-WORK on a slot: the running controller step is stopped, every controller entry ends ABORTED, and the queue
gives its next turn (R35). -/
def State.abortWork (s : State) (i : SlotNo) : State :=
  let q := s.queue i
  let s := s.push [.heldCheck i, .turn i, .shed i]
  let s := if q.running = some .controller then s.abortStep i else s
  let s := s.modQueue i fun x =>
    if x.running = some .controller then { x with ctrl := [], running := none, pauseEnd := none }
    else { x with ctrl := [] }
  s.completeAborted i q.ctrl

/-! ## Entries of the output path (R37 to R40) -/

/-- A prepare entry is placed in the target's reserved place, or a marked one is kept with its mark withdrawn (R37,
R38). -/
def State.placePrepare (s : State) (i : SlotNo) : State :=
  let sl := s.slot i
  let fresh : Entry :=
    { kind := .prepare, steps := sl.prepareSteps, done := 0, waiver := false, marked := false }
  (s.modQueue i fun q =>
    { q with out := some (match q.out with | some e => { e with marked := false } | none => fresh) }).push [.turn i]

/-- The restart entry becomes the prepare entry with its remaining steps and the waiver (R40). -/
def State.convertRestart (s : State) (i : SlotNo) : State :=
  (s.modQueue i fun q =>
    { q with out := q.out.map fun e => { e with kind := .prepare, waiver := true } }).clearRestart i

/-- A prepare entry is removed: at once while it waits, marked to end after its step while it runs (R38). -/
def State.removePrepare (s : State) (i : SlotNo) : State :=
  match (s.queue i).out with
  | none => s
  | some e =>
    if e.kind = .prepare then
      s.modQueue i fun q =>
        if q.running = some .output then { q with out := some { e with marked := true } } else { q with out := none }
    else s

/-- The restart entry is placed and restart-under-way set (R39, R157). -/
def State.placeRestart (s : State) (i : SlotNo) : State :=
  let e : Entry :=
    { kind := .restart, steps := [.powerOff, .powerOn, .probe], done := 0, waiver := true, marked := false }
  ((s.modQueue i fun q => { q with out := some e }).modSlot i fun sl =>
    { sl with restartUnderWay := true }).push [.turn i]

/-- What stops a restart entry's running step at a hold expiry (R160). -/
def State.stopRestartStep (s : State) (i : SlotNo) : State :=
  match (s.queue i).step with
  | some .powerOn =>
    match (s.slot i).state with
    | .waiting => (s.leaveWait i).modSlot i fun sl => { sl with rest := none }
    | .starting => (s.modSlot i fun sl => { sl with warm := none }).releasePermit i
    | _ => s.markRest i false
  | some .probe => (s.stopWork i).modSlot i fun sl => { sl with probeReturn := none }
  | _ => s

/-- A hold expiry ends the restart entry, with no outcome to any block (R160). -/
def State.endRestart (s : State) (i : SlotNo) : State :=
  let q := s.queue i
  let s := if q.running = some .output then s.stopRestartStep i else s
  (s.modQueue i fun q =>
    { q with out := none, running := if q.running = some .output then none else q.running }).clearRestart i

end Sys2Proof.Machine
end

