-- ==== Sys2Proof/Machine/OutputPath.lean ====
section
/-! DEFINITION. The Output Path (R65 to R87, R155 to R160): audio, staged items, the watch, loss and stall, HOLDING and
its rejoin, and the ways to DARK. -/

namespace Sys2Proof.Machine

/-! ## Audio (R74) -/

/-- Mute-at-once: gain and target 63 (R74). -/
def State.mute (s : State) : State := s.modOut fun o => { o with gain := 63, target := 63 }

/-- One audio step: the gain moves one step toward its target (R74). -/
def stepGain (gain target : Nat) : Nat :=
  if gain < target then gain + 1 else if target < gain then gain - 1 else gain

/-! ## Staged items (R76) -/

/-- A level is stored in a slot's profile. -/
def State.storeLevel (s : State) (i : SlotNo) (level : Nat) : State :=
  s.modSetup i fun su => { su with profile := { su.profile with audioLevel := level } }

/-- A map is stored as a slot's input map. -/
def State.storeMap (s : State) (i : SlotNo) (m : InputMap) : State := s.modSetup i fun su => { su with map := m }

/-- Any staged level and map are stored in the slot and both fields cleared (R76). -/
def State.storeStaged (s : State) (i : SlotNo) : State :=
  let t := match s.out.stagedLevel with | some n => s.storeLevel i n | none => s
  let t := match s.out.stagedMap with | some m => t.storeMap i m | none => t
  t.modOut fun o => { o with stagedLevel := none, stagedMap := none }

/-- Staged items applied at a frame pulse without loss: stored, and a staged level becomes the audio target (R76). -/
def State.applyStaged (s : State) (i : SlotNo) : State :=
  let t := s.storeStaged i
  match s.out.stagedLevel with
  | some n => t.modOut fun o => { o with target := n }
  | none => t

/-! ## The watch (R77) -/

/-- Whether a slot's line pulse has been taken in this very tick (log 3). -/
def State.lineNow (s : State) (i : SlotNo) : Bool := decide ((s.tap i).lastLine = some s.now)

/-- Whether a slot's frame pulse has been taken in this very tick (log 3). -/
def State.frameNow (s : State) (i : SlotNo) : Bool := decide ((s.tap i).lastFrame = some s.now)

/-- The watch starts with its counts and timer at 0; a line pulse already taken in this tick belongs to the frame that
opens here (R77, R52). -/
def State.startWatch (s : State) (i : SlotNo) : State :=
  s.modOut fun o => { o with watch := { lineCount := bit (s.lineNow i), irregular := 0, timer := some (s.after 100) } }

/-- The watch stops, keeping its irregular-frame count (R77). -/
def Watch.stop (w : Watch) : Watch := { w with timer := none }

/-- The sampler enters SAMPLING at a SETTLE completion (R152). -/
def State.startSampler (s : State) (i : SlotNo) : State :=
  s.modSampler fun _ => Sampler.begin s.now (s.lineNow i)

/-! ## DARK (R85, R86, R95, R109) -/

/-- The output record in DARK; the class output and the programmed timing stay (R85, R109). -/
def Output.darkened (o : Output) : Output :=
  { o with mode := .dark, source := none, sourceProbe := none, blanked := true, gain := 63, target := 63,
           stagedMap := none, stagedLevel := none, watch := o.watch.stop, hold := Hold.none }

/-- The bridge becomes the sync source if a slot was. -/
def State.leaveSlotSync (s : State) : State := if s.out.sync = .bridge then s else s.toBridge

/-- Entry to DARK with its OUTPUT notice: staged items are stored, the OUTPUT request withdrawn, the bridge takes over
from a slot, the sampler goes IDLE (R85, R86, R95, R109). -/
def State.goDark (s : State) (cause : OutCause) : State :=
  let t := match s.out.source with | some i => (s.storeStaged i).withdrawOutput i | none => s
  ((t.leaveSlotSync.modOut Output.darkened).modSampler Sampler.stop).outNotice cause

/-! ## HOLDING (R79, R157) -/

/-- Entry to HOLDING with the source slot as held slot (R79, R157). -/
def State.enterHolding (s : State) (form : HoldForm) (time : Nat) (cause : OutCause) : State :=
  let t := s.toBridge.mute.modOut fun o =>
    { o with mode := .holding, watch := o.watch.stop
             hold := { Hold.none with
               timer := some (s.after time), form := some form, probing := decide (form = .loss)
               awaitReady := decide (form = .restart)
               stalledAt := if form = .restart then some s.now else none } }
  (t.modSampler Sampler.stop).outNotice cause

/-- Loss of the source slot's sync: HOLDING in its LOSS form for the recovery window (R78, R79). -/
def State.loss (s : State) (i : SlotNo) (cause : OutCause) : State :=
  s.enterHolding .loss (s.profileNat i (·.recovery)) cause

/-- A stall under the RESTART policy: HOLDING in its RESTART form for the sum of rest time, warm-up time and recovery
window, and the restart entry placed (R157). -/
def State.stallRestart (s : State) (i : SlotNo) : State :=
  let time := s.profileNat i fun p => p.rest + p.warmUp + p.recovery
  (s.enterHolding .restart time .stallRestart).placeRestart i

/-- A change of the hold fields. -/
def State.modHold (s : State) (f : Hold → Hold) : State := s.modOut fun o => { o with hold := f o.hold }

/-! ## The rejoin (R82 to R84) -/

/-- A rejoin begins: the record becomes the source probe, the bridge is programmed with it, ALIGN begins, counting from
this tick's frame pulse of the held slot if there was one (R82, R83). -/
def State.beginRejoin (s : State) (i : SlotNo) (p : ProbeRecord) (d : Derived) : State :=
  let s := s.withdrawOutput i
  s.modOut fun o =>
    { o with
      sourceProbe := some p
      timing := { ticks := d.lineTicks, lines := d.frameLines }
      hold := { o.hold with
        rejoin := some .align, probing := false, awaitReady := false
        cut := { opened := s.frameNow i, alignCount := bit (s.frameNow i && s.lineNow i), settleCount := 0,
                 settleFrames := 0, timer := some (s.after 250) } } }

/-- What a record makes of HOLDING: a verdict other than GOOD leaves it as it is; GOOD in the class output's class and
accepted by the monitor begins the rejoin; GOOD otherwise faults the slot and ends in DARK (R82). `store`: the record
is to be stored as last probe first. -/
def State.rejoinDecision (s : State) (i : SlotNo) (p : ProbeRecord) (store : Bool) : State :=
  match p.verdict, p.derived with
  | .good, some d =>
    let s := if store then s.modSlot i fun sl => { sl with lastProbe := some p } else s
    if d.cls = s.out.classOut ∧ s.settings.accept d = true then s.beginRejoin i p d
    else ((s.faultSlot i .timingChanged).goDark .timingChanged).push [.shed i]
  | _, _ => s

/-- A rejoin stage ends without a completion; the bridge takes over at once if the held slot was the sync source
(R83, R159). -/
def State.stopRejoin (s : State) (probing : Bool) : State :=
  s.leaveSlotSync.modHold fun h =>
    { h with rejoin := none, cut := Cut.none, probing := probing || h.probing }

/-- Whether a held slot's board may be measured for a rejoin: ACTIVE in the LOSS form, READY in the RESTART form; in any
other state the Output Path waits (R81, R159, log 14). -/
def State.rejoinable (s : State) (i : SlotNo) : Bool :=
  decide ((s.slot i).state = .active) || decide ((s.slot i).state = .ready)

/-- An OUTPUT probe's record reaches the Output Path (R63, R82). A record of a held slot that is neither ACTIVE nor
READY is discarded (log 14). -/
def State.outputProbeDone (s : State) (i : SlotNo) (p : ProbeRecord) : State :=
  if s.heldSlot = some i ∧ s.out.hold.rejoin = none ∧ s.rejoinable i = true then s.rejoinDecision i p true
  else s

/-- The restart entry's outcome (R158); nothing when the output no longer holds the slot (R39). -/
def State.restartOutcome (s : State) (i : SlotNo) (r : Result) : State :=
  if s.heldSlot = some i then
    match r, (s.slot i).lastProbe with
    | .ok, some p => (s.modHold fun h => { h with awaitReady := false }).rejoinDecision i p false
    | _, _ => s.goDark .restartFailed
  else s

/-- In the RESTART form the Output Path follows the held slot after its restart entry: READY again, its last probe is
decided on; no longer READY, a rejoin stage stops (R159). -/
def State.heldCheck (s : State) (i : SlotNo) : State :=
  if s.heldSlot = some i ∧ s.out.hold.form = some .restart ∧ (s.queue i).hasRestart = false then
    if (s.slot i).state = .ready then
      match s.out.hold.awaitReady, s.out.hold.rejoin, (s.slot i).lastProbe with
      | true, none, some p =>
        ((s.withdrawOutput i).modHold fun h => { h with awaitReady := false }).rejoinDecision i p false
      | _, _, _ => s
    else if s.out.hold.rejoin.isSome then
      (s.stopRejoin false).modHold fun h => { h with awaitReady := true }
    else s.modHold fun h => { h with awaitReady := true }
  else s

/-- The rejoin's SETTLE completes: back to SHOWING (R84). -/
def State.completeRejoin (s : State) (i : SlotNo) : State :=
  let s := s.modOut fun o => { o with blanked := false, mode := .showing, hold := Hold.none }
  let s := (s.activate i).applyStaged i
  let s := s.modOut fun o => { o with target := s.profileNat i (·.audioLevel) }
  let s := ((s.startWatch i).startSampler i).outNotice .rejoined
  s.push [.payout]

/-! ## ALIGN and SETTLE, common to changeover and rejoin (R101, R103) -/

/-- A frame pulse of the aligned slot: true when it qualifies, and the counts for the frame that opens (R101). -/
def Cut.alignFrame (c : Cut) (coincident : Bool) (p : Option ProbeRecord) : Bool × Cut :=
  let (ended, next) := splitFrame coincident c.alignCount
  (c.opened && fitsProbe p ended, { c with opened := true, alignCount := next })

/-- A line pulse of the aligned slot is counted once the first counted frame has opened (R101). -/
def Cut.alignLine (c : Cut) : Cut := if c.opened then { c with alignCount := countLine c.alignCount } else c

/-- SETTLE begins at the cut (R103). -/
def Cut.settling (frames : Nat) (timer : Nat) : Cut :=
  { opened := false, alignCount := 0, settleCount := 0, settleFrames := frames, timer := some timer }

/-- A frame pulse of the settling slot is counted and sets the frame timer back (R103). -/
def Cut.settleFrame (c : Cut) (timer : Nat) : Cut :=
  { c with settleCount := c.settleCount + 1, timer := some timer }

/-- A slot becomes the sync source; blanked stays yes (R70, R101). -/
def State.cutTo (s : State) (i : SlotNo) : State := s.modOut fun o => { o with sync := .slot i }

/-- A frame pulse of the held slot in the rejoin's ALIGN (R83, R101). -/
def State.rejoinAlign (s : State) (i : SlotNo) (coincident : Bool) : State :=
  let (qualifies, cut) := s.out.hold.cut.alignFrame coincident s.out.sourceProbe
  if qualifies then
    let frames := s.profileNat i (·.settleFrames)
    let s := (s.cutTo i).modHold fun h =>
      { h with rejoin := some .settle, cut := Cut.settling frames (s.after 100) }
    if frames = 0 then s.completeRejoin i else s
  else s.modHold fun h => { h with cut := cut }

/-- A frame pulse of the held slot in the rejoin's SETTLE (R83, R103). -/
def State.rejoinSettle (s : State) (i : SlotNo) : State :=
  let cut := s.out.hold.cut.settleFrame (s.after 100)
  let s := s.modHold fun h => { h with cut := cut }
  if cut.settleFrames ≤ cut.settleCount then s.completeRejoin i else s

/-! ## The watch at a frame pulse (R76 to R78, R155, R156) -/

/-- The sampler closes the frame that ended, the stall test is made, and the next frame opens if the output is still
SHOWING (R155, R156). -/
def State.closeFrame (s : State) (i : SlotNo) (coincident : Bool) : State :=
  let s := s.modSampler Sampler.close
  let s :=
    if s.stalled i then
      match (s.profile i).map (·.stallPolicy) with
      | some .restart => (s.declareStall i).stallRestart i
      | _ => s.declareStall i
    else s
  if s.out.mode = .showing then s.modSampler fun x => x.openFrame s.now coincident else s

/-- A frame pulse of the showing slot: the watch compares the frame that ended; it declares loss at the eighth irregular
frame in a row, and otherwise staged items are applied and the sampler is given the pulse (R77, R78). -/
def State.watchFrame (s : State) (i : SlotNo) (coincident : Bool) : State :=
  let w := s.out.watch
  let (ended, next) := splitFrame coincident w.lineCount
  let irregular := if fitsProbe s.out.sourceProbe ended then 0 else w.irregular + 1
  let s := s.modOut fun o =>
    { o with watch := { lineCount := next, irregular := irregular, timer := some (s.after 100) } }
  if 8 ≤ irregular then s.loss i .lossFrames
  else (s.applyStaged i).closeFrame i coincident

/-- A line pulse of the showing slot (R77, R153). -/
def State.watchLine (s : State) : State :=
  (s.modOut fun o => { o with watch := { o.watch with lineCount := countLine o.watch.lineCount } }).modSampler
    fun x => x.linePulse s.now

/-- The watch's frame timer reaches 100 ms: loss (R78). -/
def State.watchTimerEnds (s : State) : State :=
  match s.out.watch.timer, s.out.source with
  | some t, some i => (s.reach t).loss i .lossNoSync
  | _, _ => s

/-! ## The hold timer (R85, R160) -/

/-- Whether the slot is WAITING, STARTING or PROBING under a step of a controller entry (R160). DESIGN CHOICE (log 36): a
step that is not the one the slot's state comes from, as a PAUSE that runs on a slot whose POWER_ON was aborted in
STARTING, does not hold the slot; `expireSlot` faults it at once. -/
def State.underController (s : State) (i : SlotNo) : Bool :=
  decide ((s.queue i).running = some .controller) &&
    (match (s.slot i).state, (s.queue i).step with
     | .waiting, some .powerOn | .starting, some .powerOn | .probing, some .probe => true
     | _, _ => false)

/-- What a hold expiry makes of the held slot: FAULT (SYNC_LOST) now, or at the end of the test or controller step that
it is under (R160, log 23). DESIGN CHOICE (log 36): R16 and R160 name STARTING only under the restart entry or a
controller's step; a held slot that is STARTING, its POWER_ON having been aborted before the expiry, with no step running
or with another controller step, a PAUSE, running, faults at once, its warm-up timer stopped and its permit released, as
under the restart entry. -/
def State.expireSlot (s : State) (i : SlotNo) : State :=
  if (s.slot i).state = .testing then
    s.modSlot i fun sl => { sl with testReturn := some .fault, faultAtEnd := true }
  else if s.underController i then s.modSlot i fun sl => { sl with faultAtEnd := true }
  else
    let s := if (s.slot i).state = .waiting then s.leaveWait i else s
    let s := if (s.slot i).state = .starting then (s.modSlot i fun sl => { sl with warm := none }).releasePermit i else s
    s.faultSlot i .syncLost

/-- The hold timer expires: a restart entry is ended, the held slot faults, and the output goes to DARK (R85, R160). -/
def State.holdExpires (s : State) (i : SlotNo) : State :=
  let t := s.push [.turn i, .shed i]
  let t := if (s.queue i).hasRestart then t.endRestart i else t
  (t.expireSlot i).goDark .syncLost

/-- The end of the hold timer. -/
def State.holdTimerEnds (s : State) : State :=
  match s.out.hold.timer, s.heldSlot with
  | some t, some i => (s.reach t).holdExpires i
  | _, _ => s

end Sys2Proof.Machine
end

