-- ==== Sys2Proof/Machine/Changeover.lean ====
section
/-! DEFINITION. The Changeover Sequencer (R88 to R114): its six stages, failure, retarget, reselect, and what a power
trip or a target that leaves READY does to it. -/

namespace Sys2Proof.Machine

/-! ## Settling a SELECT (R89, R95, R109, R113) -/

/-- The COMPLETION notice of a SELECT (R89). -/
def State.completeSelect (s : State) (tag : Byte) (slot : Option SlotNo) (outcome step : Result) : State :=
  s.complete tag (selectCompletion slot outcome step)

/-- The prepare entry of the target, if any, is removed (R38). -/
def State.removeTargetEntry (s : State) : Option SlotNo → State
  | none => s
  | some i => s.removePrepare i

/-- What a slot that is no longer the target is tested for: its queue's turn and its shed (R27, R19). -/
def releasedTasks : Option SlotNo → List Task
  | none => []
  | some i => [.turn i, .shed i]

/-- The start of a pending SELECT, if there is one (R113). -/
def startTasks : Option Selection → List Task
  | none => []
  | some sel => [.startSelection sel]

/-- A changeover fails: the record is removed, the output takes the DARK failure state, the prepare entry is removed,
the SELECT completes with the reason, and a pending SELECT starts (R109, R113). `step` is the step result of
PREPARE_FAILED. -/
def State.failChange (s : State) (reason step : Result) : State :=
  match s.chg with
  | none => s
  | some c =>
    let s := State.goDark { s with chg := none } .changeover
    let s := (s.removeTargetEntry c.toSlot).completeSelect c.tag c.toSlot reason step
    s.push (releasedTasks c.toSlot ++ startTasks c.reselect)

/-- A changeover to NONE ends in DARK with DONE (R95). -/
def State.endAtNone (s : State) : State :=
  match s.chg with
  | none => s
  | some c => (State.goDark { s with chg := none } .changeover).completeSelect c.tag none .ok .ok

/-! ## RECLASS and PREPARE (R96, R97, R99, R100) -/

/-- The bridge is programmed with a probe's figures (R69, R99). -/
def State.programBridge (s : State) (d : Derived) : State :=
  s.modOut fun o => { o with timing := { ticks := d.lineTicks, lines := d.frameLines } }

/-- RECLASS after the acceptance test has passed: the bridge is programmed; a class that differs is set at once and
waited for until its deadline; the same class waits for bridge frame starts (R99, R100). DESIGN CHOICE (log 40): where an
earlier deadline still stands and lies after the moment of the change plus the class settle, R100 has the deadline become
that earlier moment and has the next RECLASS wait at least until the one that stands; the model overwrites it. -/
def State.reclassify (s : State) (d : Derived) : State :=
  let s := s.programBridge d
  if d.cls = s.out.classOut then s.modChange fun c => { c with starts := some 0 }
  else
    let s := s.modOut fun o => { o with classOut := d.cls }
    { s with classDeadline := s.after s.settings.settle }

/-- PREPARE ends and RECLASS begins: the target's last probe is copied, the settings are read, the acceptance test is
made (R97, R99). -/
def State.startReclass (s : State) (i : SlotNo) : State :=
  match (s.slot i).lastProbe with
  | none => s
  | some p =>
    let s := s.modChange fun c =>
      { c with stage := .reclass, prepareTimer := none, targetProbe := some p, settle := s.settings.settle
               starts := none }
    match p.derived with
    | none => s.failChange .monitorRejects .ok
    | some d => if s.settings.accept d then s.reclassify d else s.failChange .monitorRejects .ok

/-- PREPARE begins for a target slot. A READY target with a last probe needs no entry, and the stage ends at once; in any
other state, TESTING among them, an entry is placed (R37, R96, log 15). -/
def State.startPrepare (s : State) (i : SlotNo) : State :=
  let s := s.modChange fun c =>
    { c with stage := .prepare, cut := Cut.none, timeout := s.settings.timeout, targetProbe := none, starts := none
             prepareTimer := some (s.after (1000 * s.settings.timeout)) }
  if (s.queue i).hasRestart then s.convertRestart i
  else if (s.slot i).measured = true then s.startReclass i
  else s.placePrepare i

/-- BRIDGE ends: PREPARE for a slot, the end of the changeover for NONE (R94, R95). -/
def State.bridgeEnds (s : State) : State :=
  match s.chg with
  | none => s
  | some c =>
    match c.toSlot with
    | none => s.endAtNone
    | some i => s.startPrepare i

/-- The end of BRIDGE after the switch has been made: only while the stage is BRIDGE and the bridge is the sync source
(R94, R108). -/
def State.bridgeEnd (s : State) : State :=
  match s.chg with
  | none => s
  | some c => if c.stage = .bridge ∧ s.out.sync = .bridge then s.bridgeEnds else s

/-- BRIDGE begins: it is skipped when the bridge is the sync source already (R94). -/
def State.beginBridge (s : State) : State :=
  if s.out.sync = .bridge then s.bridgeEnds
  else s.modChange fun c => { c with stage := .bridge, cut := { Cut.none with timer := some (s.after 250) } }

/-- The two conditions of the end of FADE (R93). -/
def State.fadeDone (s : State) : Bool := decide (s.out.gain = 63) && s.coin.pulse.isNone

/-- FADE ends at the first moment both its conditions hold (R93). -/
def State.fadeTest (s : State) : State :=
  match s.chg with
  | none => s
  | some c => if c.stage = .fade ∧ s.fadeDone = true then s.beginBridge else s

/-- The switch to the bridge in BRIDGE: at the outgoing slot's frame pulse, or at the 250 ms mark (R94). -/
def State.bridgeSwitch (s : State) : State := s.toBridge.push [.bridgeEnd]

/-- The prepare entry's outcome (R97). -/
def State.prepareOutcome (s : State) (i : SlotNo) (r : Result) : State :=
  match s.chg with
  | none => s
  | some c =>
    if c.stage = .prepare ∧ c.toSlot = some i then
      if r = .ok then s.startReclass i else s.failChange .prepareFailed r
    else s

/-! ## Starting a changeover (R90 to R92) -/

/-- The outgoing slot's move at the start of FADE (R92, R16). -/
def State.releaseOutgoing (s : State) (i : SlotNo) : State :=
  if s.out.hold.form = some .loss then s.faultSlot i .syncLost
  else if (s.slot i).state = .active then s.setState i .ready
  else s

/-- The record of a changeover that begins (R90). DESIGN CHOICE (log 33): its prepare timeout and class settle, which
PREPARE and RECLASS read first, hold 0 until then. -/
def Change.start (source : Option SlotNo) (sel : Selection) : Change :=
  { fromSlot := source, toSlot := sel.slot, tag := sel.tag, stage := .fade, cut := Cut.none, timeout := 0,
    prepareTimer := none, settle := 0, targetProbe := none, starts := none, reselect := none }

/-- What the outgoing slot leaves: its state, its staged items and its OUTPUT request (R91, R92). -/
def State.leaveSource (s : State) : State :=
  match s.out.source with
  | none => s
  | some i => ((s.releaseOutgoing i).storeStaged i).withdrawOutput i

/-- The output record at the start of a changeover: CHANGING without a source, the hold and the watch stopped, the
audio target 63 (R90, R91, R92). -/
def Output.changing (o : Output) : Output :=
  { o with mode := .changing, source := none, sourceProbe := none, target := 63, watch := o.watch.stop
           hold := Hold.none }

/-- From HOLDING a rejoin's cut is undone at once (R91). -/
def State.leaveHeldSync (s : State) : State := if s.out.mode = .holding then s.leaveSlotSync else s

/-- A changeover starts from DARK, SHOWING or HOLDING (R90, R91, R92). -/
def State.startChangeover (s : State) (sel : Selection) : State :=
  let t := (s.leaveSource.leaveHeldSync.modOut Output.changing).modSampler Sampler.stop
  let t := State.clearShed { t with chg := some (Change.start s.out.source sel) } sel.slot
  (t.outNotice .changeover).push [.fade]

/-- A pending SELECT starts at the end of a changeover; a pending NONE has nothing to do in DARK (R113). -/
def State.startSelection (s : State) (sel : Selection) : State :=
  if s.out.mode = .dark ∧ sel.slot = none then s.completeSelect sel.tag none .ok .ok else s.startChangeover sel

/-! ## Retarget and reselect (R106, R110 to R112) -/

/-- The SELECT in the record is superseded by another, whose slot or NONE becomes the target; the stage moves as R110
and R111 say. -/
def State.retarget (s : State) (sel : Selection) : State :=
  match s.chg with
  | none => s
  | some c =>
    let s := (s.completeSelect c.tag c.toSlot .superseded .ok).removeTargetEntry c.toSlot
    let s := s.modChange fun c => { c with toSlot := sel.slot, tag := sel.tag, targetProbe := none }
    let s := s.clearShed sel.slot
    let s :=
      if c.stage = .fade ∨ c.stage = .bridge then s
      else
        match sel.slot with
        | none => s.endAtNone
        | some i => s.startPrepare i
    s.push (releasedTasks c.toSlot)

/-- A SELECT in ALIGN or SETTLE becomes the pending reselect; one it replaces is superseded (R112). -/
def State.storeReselect (s : State) (sel : Selection) : State :=
  match s.chg with
  | none => s
  | some c =>
    let s := match c.reselect with
      | some old => s.completeSelect old.tag old.slot .superseded .ok
      | none => s
    s.modChange fun c => { c with reselect := some sel }

/-- Whether a stage comes after PREPARE. -/
def Stage.afterPrepare : Stage → Bool
  | .reclass | .align | .settle => true
  | .fade | .bridge | .prepare => false

/-- A target that has left READY after PREPARE, for PROBING or for FAULT, takes the changeover back to PREPARE, or to
the pending reselect (R106). -/
def State.targetCheck (s : State) : State :=
  match s.chg, s.target with
  | some c, some i =>
    if c.stage.afterPrepare = true ∧ (s.slot i).state ≠ .ready then
      let s := s.leaveSlotSync
      match c.reselect with
      | none => s.startPrepare i
      | some sel =>
        (s.modChange fun c => { c with stage := .prepare, cut := Cut.none, reselect := none }).retarget sel
    else s
  | _, _ => s

/-! ## ALIGN and SETTLE (R101 to R105) -/

/-- ALIGN begins with its 250 ms timer (R101). -/
def State.startAlign (s : State) : State :=
  s.modChange fun c => { c with stage := .align, cut := { Cut.none with timer := some (s.after 250) } }

/-- The shed-pending flag of the outgoing slot at a completion: it is set when its policy is SHED and its power ON,
unless it is the new source slot or the pending reselect names it (R19, R104). -/
def State.flagShed (s : State) (source : Option SlotNo) (target : SlotNo) : State :=
  match source with
  | none => s
  | some i =>
    let policy := (s.profile i).map (·.policy)
    if i ≠ target ∧ s.isReselect i = false ∧ policy = some .shed ∧ (s.slot i).power = true then
      State.shedTest (s.modSlot i fun sl => { sl with shedPending := true }) i
    else s

/-- SETTLE completes (R104). -/
def State.completeChange (s : State) (i : SlotNo) : State :=
  match s.chg with
  | none => s
  | some c =>
    let s := s.modOut fun o =>
      { o with blanked := false, mode := .showing, source := some i, sourceProbe := c.targetProbe }
    let s := (s.activate i).payoutTest
    let s := s.modOut fun o => { o with target := s.profileNat i (·.audioLevel) }
    let s := ((s.startWatch i).startSampler i).flagShed c.fromSlot i
    let s := State.outNotice { s with chg := none } .changeover
    (s.completeSelect c.tag (some i) .ok .ok).push (startTasks c.reselect)

/-- A frame pulse of the target in ALIGN: the cut when it qualifies (R101, R103). -/
def State.changeAlign (s : State) (i : SlotNo) (coincident : Bool) : State :=
  match s.chg with
  | none => s
  | some c =>
    let (qualifies, cut) := c.cut.alignFrame coincident c.targetProbe
    if qualifies then
      let frames := s.profileNat i (·.settleFrames)
      let timer := s.after 100
      let s := (s.cutTo i).modChange fun c => { c with stage := .settle, cut := Cut.settling frames timer }
      if frames = 0 then s.completeChange i else s
    else s.modChange fun c => { c with cut := cut }

/-- A frame pulse of the target in SETTLE (R103). -/
def State.changeSettle (s : State) (i : SlotNo) : State :=
  match s.chg with
  | none => s
  | some c =>
    let cut := c.cut.settleFrame (s.after 100)
    let s := s.modChange fun c => { c with cut := cut }
    if cut.settleFrames ≤ cut.settleCount then s.completeChange i else s

/-! ## The bridge's frame starts and the class settle deadline (R69, R100) -/

/-- A bridge frame starts at the programmed timing (R69). -/
def State.frameStarts (s : State) : State := s.modOut fun o => { o with current := o.timing, frameStart := s.now }

/-- A bridge frame start in a RECLASS that counts them: the third, once the deadline has passed, begins ALIGN
(R100). -/
def State.reclassFrame (s : State) : State :=
  match s.chg with
  | none => s
  | some c =>
    match c.stage, c.starts with
    | .reclass, some n =>
      let s := s.modChange fun c => { c with starts := some (min 3 (n + 1)) }
      if 2 ≤ n ∧ s.classDeadline ≤ s.now then s.startAlign else s
    | _, _ => s

/-- The class settle deadline ends the wait of a RECLASS that waits for nothing else (R100). -/
def State.reclassDeadline (s : State) : State :=
  match s.chg with
  | none => s
  | some c =>
    match c.stage, c.starts with
    | .reclass, none => s.startAlign
    | .reclass, some n => if 3 ≤ n then s.startAlign else s
    | _, _ => s

/-! ## Timers (R94, R98, R102, R105, R83) -/

/-- The stage timer of a changeover in a stage. -/
def State.stageTimer (s : State) (st : Stage) : Option Nat :=
  match s.chg with
  | none => none
  | some c => if c.stage = st then c.cut.timer else none

/-- The stage timer of a rejoin in a stage. -/
def State.rejoinTimer (s : State) (st : RejoinStage) : Option Nat :=
  if s.out.hold.rejoin = some st then s.out.hold.cut.timer else none

/-- The 250 ms mark of BRIDGE (R94). -/
def State.bridgeTimerEnds (s : State) : State :=
  match s.stageTimer .bridge with
  | none => s
  | some t => (s.reach t).bridgeSwitch

/-- The prepare timer ends (R98). -/
def State.prepareTimerEnds (s : State) : State :=
  match s.chg.bind (·.prepareTimer) with
  | none => s
  | some t => (s.reach t).failChange .prepareTimeout .ok

/-- The target faults and the changeover fails with the same reason (R102, R105). -/
def State.faultTarget (s : State) (reason : Result) : State :=
  match s.target with
  | none => s
  | some i => (s.leaveSlotSync.faultSlot i reason).failChange reason .ok

/-- The 250 ms mark of ALIGN: a changeover fails with ALIGN_TIMEOUT, a rejoin falls back to probing (R102, R83). -/
def State.alignTimerEnds (s : State) : State :=
  match s.stageTimer .align, s.rejoinTimer .align with
  | some t, _ => (s.reach t).faultTarget .alignTimeout
  | none, some t => (s.reach t).stopRejoin true
  | none, none => s

/-- The 100 ms mark of SETTLE: a changeover fails with SETTLE_LOST, a rejoin falls back to probing (R105, R83). -/
def State.settleTimerEnds (s : State) : State :=
  match s.stageTimer .settle, s.rejoinTimer .settle with
  | some t, _ => (s.reach t).faultTarget .settleLost
  | none, some t => (s.reach t).stopRejoin true
  | none, none => s

/-! ## Power trips (R12, R86, R107, R108, R161) -/

/-- What a trip of a slot does to the output: DARK for the source slot, the changeover's failure for its target from
PREPARE on, the bridge for the outgoing slot (R86, R107, R108). -/
def State.tripOutput (s : State) (i : SlotNo) : State :=
  if s.isSource i then s.goDark .powerTrip
  else
    match s.chg with
    | none => s
    | some c =>
      if c.toSlot = some i ∧ c.stage = .prepare then s.failChange .prepareFailed .powerTrip
      else if c.toSlot = some i ∧ c.stage.afterPrepare = true then s.failChange .powerTrip .ok
      else s.outgoingOpened i

/-- What a trip does to a probe or test of the slot: a WORK request is withdrawn or released, a HARNESS step leaves the
wait list, a running test stops INCOMPLETE (R12, R49, R164, R169). -/
def State.tripWork (s : State) (i : SlotNo) : State :=
  let s := if (s.queue i).step = some .probe then s.releaseWork i else s
  let s := s.leaveTester i
  if s.testRunsOn i then s.stopTest else s

/-- What a trip makes of the slot's record: power OFF, the rest timer started, FAULT (POWER_TRIP) (R12). -/
def State.tripSlot (s : State) (i : SlotNo) : State :=
  let s := s.openSwitch i
  let s := s.modSlot i fun sl => { sl with testReturn := none, probeReturn := none, faultAtEnd := false }
  let s := s.faultSlot i .powerTrip
  if s.supply.permit = some i then s.modSupply fun p => { p with permit := none } else s

/-- Tasks added behind those that wait. -/
def State.pushLast (s : State) (ts : List Task) : State := { s with todo := s.todo ++ ts }

/-- Whether the slot is held in the RESTART form that a stall of this instant entered, so that a trip of the same instant
ends it even where the restart entry's POWER_OFF has opened the switch already (R161). -/
def State.stalledNow (s : State) (i : SlotNo) : Bool :=
  decide (s.heldSlot = some i ∧ s.out.hold.stalledAt = some s.now)

/-- A power trip of a slot. An open switch cannot trip, but a trip of the instant at which the slot stalled counts, whichever
of the two is taken first (R12, R161, log 16). -/
def State.trip (s : State) (i : SlotNo) : State :=
  if (s.slot i).power || s.stalledNow i then
    let running := (s.queue i).running.isSome
    let s := (((s.tripSlot i).abandonPulse i).tripWork i).tripOutput i
    s.pushLast ((if running then [Task.stepEnd i .powerTrip none] else []) ++ [.grant, .payout, .fade, .tester])
  else s

end Sys2Proof.Machine
end

