-- ==== Sys2Proof/Machine/Cascade.lean ====
section
/-! DEFINITION. The tasks of an event, done one after another until none is left (log 17, log 18), and the pulses of the
sync taps, which reach several blocks in turn (R42, R44). -/

namespace Sys2Proof.Machine

/-- What each task is. -/
def State.doTask (s : State) : Task → State
  | .turn i => s.turn i
  | .beginStep i => s.beginStep i
  | .stepEnd i r p => s.stepEnds i r p
  | .prepareOutcome i r => s.prepareOutcome i r
  | .restartOutcome i r => s.restartOutcome i r
  | .probeDone i p => s.workProbeDone i p
  | .outputProbeDone i p => s.outputProbeDone i p
  | .grant => s.grantTest
  | .shed i => s.shedTest i
  | .tester => s.handTester
  | .payout => s.payoutTest
  | .fade => s.fadeTest
  | .bridgeEnd => s.bridgeEnd
  | .targetCheck => s.targetCheck
  | .heldCheck i => s.heldCheck i
  | .startSelection sel => s.startSelection sel

/-- The tasks that wait are done, the first one first; a task's own tasks come before the rest. -/
def run : Nat → State → State
  | 0, s => s
  | n + 1, s =>
    match s.todo with
    | [] => s
    | t :: rest => run n (State.doTask { s with todo := rest } t)

/-- All the tasks of the event (log 18). -/
def State.cascade (s : State) : State := run Config.cascadeBound s

/-! ## Frame pulses (R42) -/

/-- The part a slot plays for the Output Path and the Changeover Sequencer when its frame pulse comes. -/
inductive Role
  | none
  | watched
  | outgoing
  | aligned
  | settling
  | rejoinAligned
  | rejoinSettling
  | heldWaiting
deriving DecidableEq, Repr

/-- A slot's role in a changeover: the outgoing slot in BRIDGE, the target in ALIGN and SETTLE (R94, R101, R103). -/
def State.changeRole (s : State) (c : Change) (i : SlotNo) : Role :=
  match c.stage with
  | .bridge => if s.out.sync = .slot i then .outgoing else .none
  | .align => if c.toSlot = some i then .aligned else .none
  | .settle => if c.toSlot = some i then .settling else .none
  | _ => .none

/-- A slot's role for the output. A held slot that is neither ACTIVE nor READY is only waited for (R77, R81, R83, R94,
R101, R103, R159, log 14). -/
def State.role (s : State) (i : SlotNo) : Role :=
  match s.out.mode with
  | .dark => .none
  | .showing => if s.isSource i then .watched else .none
  | .changing =>
    match s.chg with
    | some c => s.changeRole c i
    | none => .none
  | .holding =>
    if s.isSource i then
      match s.out.hold.rejoin with
      | some .align => .rejoinAligned
      | some .settle => .rejoinSettling
      | none => if s.out.hold.probing && s.rejoinable i && !s.outputRequest then .heldWaiting else .none
    else .none

/-- What a frame pulse does in each role. -/
def State.roleFrame (s : State) (i : SlotNo) (coincident : Bool) : Role → State
  | .none => s
  | .watched => s.watchFrame i coincident
  | .outgoing => s.bridgeSwitch
  | .aligned => s.changeAlign i coincident
  | .settling => s.changeSettle i
  | .rejoinAligned => s.rejoinAlign i coincident
  | .rejoinSettling => s.rejoinSettle i
  | .heldWaiting => s.placeOutput i

/-- An engine that was measuring the slot when the pulse came takes it, with all that its end brings about. -/
def State.engineFrameIf (s : State) (k : EngineNo) (taken coincident : Bool) : State :=
  if taken then (s.engineFrame k coincident).cascade else s

/-- A frame pulse of a slot: the engines that measure it take it first, then the output, in the role the slot had when
the pulse came and only if it still has it (log 13). -/
def State.framePulse (s : State) (i : SlotNo) : State :=
  let role := s.role i
  let coincident := s.lineNow i
  let on0 := s.engineOn 0 i
  let on1 := s.engineOn 1 i
  let s := s.modTap i fun t => { t with lastFrame := some s.now }
  let s := (s.engineFrameIf 0 on0 coincident).engineFrameIf 1 on1 coincident
  if s.role i = role then s.roleFrame i coincident role else s

/-! ## Line pulses (R42) -/

/-- What a line pulse does for the output: the watch and the sampler count it in SHOWING, ALIGN counts it (R77, R101,
R153). -/
def State.roleLine (s : State) : Role → State
  | .watched => s.watchLine
  | .aligned => s.modChange fun c => { c with cut := c.cut.alignLine }
  | .rejoinAligned => s.modHold fun h => { h with cut := h.cut.alignLine }
  | _ => s

/-- An engine that was measuring the slot when the line pulse came takes it. -/
def State.engineLineIf (s : State) (k : EngineNo) (taken opens : Bool) : State :=
  if taken then (s.engineLine k opens).cascade else s

/-- A line pulse of a slot: the engines that measure it, then the output, in the role the slot had when the pulse came
and only if it still has it (log 13). `opens`: a frame pulse falls in the same tick, and the line opens its frame (R52).
To an engine it opens the next frame only while that pulse is still to come; taken after it, the line is the first of the
frame that then runs, and is counted there (log 3). -/
def State.linePulse (s : State) (i : SlotNo) (opens : Bool) : State :=
  let role := s.role i
  let on0 := s.engineOn 0 i
  let on1 := s.engineOn 1 i
  let ahead := opens && !s.frameNow i
  let s := s.modTap i fun t => { t with lastLine := some s.now }
  let s := (s.engineLineIf 0 on0 ahead).engineLineIf 1 on1 ahead
  if s.role i = role then s.roleLine role else s

/-! ## Edges at a tap (R42, R43) -/

/-- An edge of a slot's line sync input: the delayed input takes its level, and it is a line pulse when that is the
input's pulse level (R42, R43). -/
def State.lineEdge (s : State) (e : LineEdge) : State :=
  let t := s.setLineLevel e
  if (s.tap e.slot).linePulseHigh = e.high then t.linePulse e.slot e.opens else t

/-- An edge of a slot's frame sync input: the delayed input takes its level, and it is a frame pulse when that is the
input's pulse level and it stays there for at least 401 ticks; a narrower pulse is ignored (R42, R43). -/
def State.frameEdge (s : State) (e : FrameEdge) : State :=
  let t := s.setFrameLevel e
  if (s.tap e.slot).framePulseHigh = e.high ∧ Config.tapDelay ≤ e.width then t.framePulse e.slot else t

end Sys2Proof.Machine
end

