-- ==== Sys2Proof/Machine/Controls.lean ====
section
/-! DEFINITION. The Control Router's panel, chord and notices (R117, R127, R128, R130). The drive lines themselves are
worked out in Flags.lean. -/

namespace Sys2Proof.Machine

/-! ## The chord (R128) -/

/-- Whether every chord line is asserted. -/
def Controls.chordHeld (c : Controls) : Bool := c.chordLines.all fun n => c.panel.getLsbD n.val

/-- Whether every chord line is released. -/
def Controls.chordFree (c : Controls) : Bool := c.chordLines.all fun n => !c.panel.getLsbD n.val

/-- The chord begins to time from a tick. -/
def Controls.timeChord (c : Controls) (now : Nat) : Controls :=
  { c with chord := .timing, chordEnd := some (now + ms c.holdTime) }

/-- The chord is OPEN with its timer stopped. -/
def Controls.openChord (c : Controls) : Controls := { c with chord := .idle, chordEnd := none }

/-- The chord taken afresh from the panel: TIMING if every chord line is asserted, otherwise OPEN (R130, R131). -/
def Controls.freshChord (c : Controls) (now : Nat) : Controls :=
  if c.chordHeld then c.timeChord now else c.openChord

/-- The chord detector at a change of a panel line, the panel being already updated (R128). -/
def Controls.chordChange (c : Controls) (n : LineNo) (asserted : Bool) (now : Nat) : Controls :=
  if !c.chordLines.contains n then c
  else
    match c.chord with
    | .idle => if asserted && c.chordHeld then c.timeChord now else c
    | .timing => if asserted then c else c.openChord
    | .latched => if !asserted && c.chordFree then c.openChord else c

/-- The hold timer reaches the hold time: the chord latches (R128). -/
def Controls.latch (c : Controls) : Controls := { c with chord := .latched, chordEnd := none }

/-- The MENU notice at the latch (R128). -/
def State.menuNotice (s : State) : State := s.notice .menu s.menuNoticeBody

/-- The chord's hold timer ends (R128). -/
def State.chordEnds (s : State) : State :=
  match s.controls.chordEnd with
  | none => s
  | some t => ((s.reach t).modControls Controls.latch).menuNotice

/-! ## The panel (R117) -/

/-- A set of lines with one line at a level. -/
def setLine (l : Lines) (n : LineNo) (b : Bool) : Lines :=
  if b then l ||| BitVec.twoPow 24 n.val else l &&& ~~~(BitVec.twoPow 24 n.val)

/-- The panel state with one line at a level. -/
def Controls.setPanel (c : Controls) (n : LineNo) (b : Bool) : Controls := { c with panel := setLine c.panel n b }

/-- A PANEL notice is queued under capture or in DARK (R127). -/
def State.panelNotice (s : State) : State :=
  if s.controls.capture || decide (s.out.mode = .dark) then s.notice .panel s.panelNoticeBody else s

/-- A panel line changes level; a level it already has is no change (R117). -/
def State.panelChange (s : State) (n : LineNo) (asserted : Bool) : State :=
  if s.controls.panel.getLsbD n.val = asserted then s
  else (s.modControls fun c => (c.setPanel n asserted).chordChange n asserted s.now).panelNotice

end Sys2Proof.Machine
end

