-- ==== Sys2Proof/Machine/Requests.lean ====
section
/-! DEFINITION. What each request does once the link has taken it: its checks in the order of its owning rule, its reply
and its effect (R175 and the rules named). -/

namespace Sys2Proof.Machine

/-- A REFUSED reply (R175). -/
def State.refuse (s : State) (kind tag : Byte) (r : Reason) : State := s.reply kind tag (refusedBody r)

/-! ## The link's own requests (R178 to R180) -/

/-- STATUS (R179). -/
def State.takeStatus (s : State) (tag : Byte) : State := s.reply 0x01 tag (doneBody s.statusBody)

/-- Whether a message stays in the queue under a notice set (R178). -/
def Message.allowed (set : BitVec 7) (m : Message) : Bool :=
  match m.cls with
  | .group => true
  | .event k => set.getLsbD k.place

/-- A new notice set, with the waiting event notices it leaves out removed (R178). -/
def Link.setNotices (l : Link) (set : BitVec 7) : Link :=
  { l with noticeSet := set, txq := l.txq.filter (Message.allowed set) }

/-- NOTIFY (R178). -/
def State.takeNotify (s : State) (tag set : Byte) : State :=
  if set.msb then s.refuse 0x02 tag .badValue
  else (s.reply 0x02 tag (doneBody [set])).modLink fun l => l.setNotices (set.setWidth 7)

/-- RESTART: the reply is queued and the link stops taking bytes (R180). -/
def State.takeRestart (s : State) (tag : Byte) : State :=
  (s.reply 0x03 tag (doneBody [])).modLink fun l => { l with restartPending := true }

/-! ## Settings (R72, R133) -/

/-- SET-OUTPUT (R72). -/
def State.takeSetOutput (s : State) (tag : Byte) (r : RawOutput) : State :=
  match storeOutput r with
  | none => s.refuse 0x04 tag .badValue
  | some set => State.reply { s with settings := set } 0x04 tag (doneBody set.block)

/-- SET-CABINET: the settings are replaced, the reply queued, and closures in progress judged again (R133, R20). DESIGN
CHOICE (log 34): where both closures have lasted the new maximum, input A goes to JAM before input B. -/
def State.takeSetCabinet (s : State) (tag : Byte) (r : RawCabinet) : State :=
  match storeCabinet r with
  | none => s.refuse 0x05 tag .badValue
  | some (set, level) =>
    let s := (s.modCoin fun c => { c with settings := set }).modSupply fun p => { p with level := level }
    ((s.reply 0x05 tag (doneBody (cabinetBlock set level))).rejudge .a).rejudge .b

/-! ## The Slot Table (R3 to R5, R22) -/

/-- Whether SET-SLOT is refused IN_USE for a slot (R3). -/
def State.slotInUse (s : State) (i : SlotNo) : Bool :=
  s.isSource i || s.isTarget i || s.isReselect i || !(s.queue i).isEmpty

/-- The fields of SET-SLOT's reply: the request body as stored (R3, R5, log 20), its disable-flag byte 0 or 1 (log 39). -/
def setSlotFields (i : SlotNo) (p : Option Profile) : List Byte :=
  match p with
  | some p => byteOf i.val :: 0 :: p.block
  | none => byteOf i.val :: 1 :: List.replicate 20 0

/-- A profile is stored; a slot in UNCONFIGURED is configured with the identity map and moves to OFF (R3, R4). -/
def State.configure (s : State) (i : SlotNo) (p : Profile) : State :=
  match (s.slot i).setup with
  | some _ => s.modSetup i fun su => { su with profile := p }
  | none =>
    (s.modSlot i fun sl =>
      { sl with setup := some { profile := p, map := identityMap }, lastProbe := none, lastFault := none }).setState
        i .off

/-- A slot is disabled: it becomes UNCONFIGURED and its profile, map, last probe, last fault and flags go (R5). -/
def State.disable (s : State) (i : SlotNo) : State :=
  (s.modSlot i fun sl =>
    { sl with setup := none, lastProbe := none, lastFault := none, shedPending := false,
              restartUnderWay := false }).setState i .unconfigured

/-- SET-SLOT with its disable flag, bit 0 of its byte, clear or set (R3, R5, R183). DESIGN CHOICE (log 39): bits 1 to 7 of that
byte, of which R183 says nothing, are ignored, and the reply's body as stored carries the byte as 0 or 1. -/
def State.takeSetSlot (s : State) (tag slot flag : Byte) (p : RawProfile) : State :=
  match slotOf slot with
  | none => s.refuse 0x06 tag .badSlot
  | some i =>
    if flag.getLsbD 0 then
      if s.slotInUse i then s.refuse 0x06 tag .inUse
      else if (s.slot i).state = .off then (s.reply 0x06 tag (doneBody (setSlotFields i none))).disable i
      else s.refuse 0x06 tag .notAllowed
    else
      match storeProfile p with
      | none => s.refuse 0x06 tag .badValue
      | some q =>
        if s.slotInUse i then s.refuse 0x06 tag .inUse
        else (s.reply 0x06 tag (doneBody (setSlotFields i (some q)))).configure i q

/-- QUERY-SLOT (R22). -/
def State.takeQuerySlot (s : State) (tag slot : Byte) : State :=
  match slotOf slot with
  | none => s.refuse 0x10 tag .badSlot
  | some i => s.reply 0x10 tag (doneBody (s.slotBody i))

/-- CLEAR-DIP: the mark is cleared, with its notice, and the grant test follows the reply (R21). -/
def State.takeClearDip (s : State) (tag : Byte) : State :=
  if s.supply.dip then
    (((s.modSupply fun p => { p with dip := false }).supplyNotice).reply 0x14 tag (doneBody [])).push [.grant]
  else s.reply 0x14 tag alreadyBody

/-! ## The output path's settings of a slot (R75, R122) -/

/-- SET-TRIM (R75). -/
def State.takeSetTrim (s : State) (tag slot level : Byte) : State :=
  match slotOf slot with
  | none => s.refuse 0x08 tag .badSlot
  | some i =>
    if (s.slot i).setup.isNone then s.refuse 0x08 tag .notConfigured
    else
      let n := clamp 0 62 level.toNat
      let t :=
        if s.isSource i then s.modOut fun o => { o with stagedLevel := some n } else s.storeLevel i n
      t.reply 0x08 tag (doneBody [byteOf i.val, byteOf n, byteOf (bit (s.isSource i))])

/-- SET-MAP (R122). -/
def State.takeSetMap (s : State) (tag slot : Byte) (sources : Vector Byte 24) : State :=
  match slotOf slot with
  | none => s.refuse 0x07 tag .badSlot
  | some i =>
    if (s.slot i).setup.isNone then s.refuse 0x07 tag .notConfigured
    else
      match readMapSources sources with
      | none => s.refuse 0x07 tag .badValue
      | some m =>
        let t := if s.isSource i then s.modOut fun o => { o with stagedMap := some m } else s.storeMap i m
        t.reply 0x07 tag (doneBody (byteOf (bit (s.isSource i)) :: byteOf i.val :: m.toList.map fun e => byteOf e.code))

/-! ## Player controls (R125, R130) -/

/-- SET-CHORD: the lines and the hold time are replaced and the chord taken afresh (R130). -/
def State.takeSetChord (s : State) (tag : Byte) (r : RawChord) : State :=
  match storeChord r with
  | none => s.refuse 0x09 tag .badValue
  | some (lines, time) =>
    let s := s.modControls fun c => Controls.freshChord { c with chordLines := lines, holdTime := time } s.now
    s.reply 0x09 tag (doneBody s.controls.chordBlock)

/-- CAPTURE; capture going off makes the payout test (R125, R126, R142). -/
def State.takeCapture (s : State) (tag setting : Byte) : State :=
  if setting = 0 ∨ setting = 1 then
    let on := decide (setting = 1)
    if s.controls.capture = on then s.reply 0x0E tag (alreadyBody ++ s.controls.captureBlock)
    else
      let s := s.modControls fun c => { c with capture := on }
      (s.reply 0x0E tag (doneBody s.controls.captureBlock)).push (if on then [] else [.payout])
  else s.refuse 0x0E tag .badValue

/-! ## Work (R34, R35) -/

/-- SLOT-WORK (R34). -/
def State.takeSlotWork (s : State) (tag slot count : Byte) (steps : Vector RawStep 4) : State :=
  match slotOf slot with
  | none => s.refuse 0x0A tag .badSlot
  | some i =>
    if (s.slot i).state = .unconfigured then s.refuse 0x0A tag .notConfigured
    else
      match readSteps count steps with
      | none => s.refuse 0x0A tag .badValue
      | some l =>
        if tag = 0 then s.refuse 0x0A tag .badValue
        else if 4 ≤ (s.queue i).ctrl.length then s.refuse 0x0A tag .queueFull
        else
          let e : Entry := { kind := .controller tag, steps := l, done := 0, waiver := false, marked := false }
          let s := s.reply 0x0A tag (acceptedBody (byteOf i.val :: count :: stepsBlock l))
          (s.modQueue i fun q => { q with ctrl := q.ctrl ++ [e] }).push [.turn i]

/-- ABORT-WORK: the reply, then the end of every controller entry (R35). -/
def State.takeAbortWork (s : State) (tag slot : Byte) : State :=
  match slotOf slot with
  | none => s.refuse 0x0B tag .badSlot
  | some i => (s.reply 0x0B tag (doneBody [byteOf (s.queue i).ctrl.length])).abortWork i

/-! ## Changeover (R89, R114, R115) -/

/-- Whether a SELECT asks for what already holds (R89). -/
def State.selectAlready (s : State) (sel : Option SlotNo) : Bool :=
  match s.out.mode with
  | .dark => sel.isNone
  | .showing | .holding => sel.isSome && decide (s.out.source = sel)
  | .changing =>
    match s.chg with
    | none => false
    | some c => decide (c.toSlot = sel) || decide (c.reselect.map (·.slot) = some sel)

/-- An accepted SELECT, by mode and stage (R89). -/
def State.acceptSelect (s : State) (sel : Selection) : State :=
  match s.chg with
  | none => s.startChangeover sel
  | some c =>
    match c.stage with
    | .fade | .bridge | .prepare | .reclass => s.retarget sel
    | .align | .settle => s.storeReselect sel

/-- Whether a SELECT names an UNCONFIGURED slot (R89). -/
def State.selectsUnconfigured (s : State) : Option SlotNo → Bool
  | some i => decide ((s.slot i).state = .unconfigured)
  | none => false

/-- SELECT (R89). -/
def State.takeSelect (s : State) (tag slot : Byte) : State :=
  match selectionOf slot with
  | none => s.refuse 0x0C tag .badSlot
  | some sel =>
    if s.selectsUnconfigured sel then s.refuse 0x0C tag .notConfigured
    else if tag = 0 then s.refuse 0x0C tag .badValue
    else if s.selectAlready sel then s.reply 0x0C tag alreadyBody
    else (s.reply 0x0C tag (acceptedBody [])).acceptSelect { slot := sel, tag := tag }

/-- A pending reselect is removed and its SELECT completes CANCELLED (R114). -/
def State.cancelReselect (s : State) (c : Change) : State :=
  match c.reselect with
  | none => s
  | some r =>
    (s.modChange fun c => { c with reselect := none }).completeSelect r.tag r.slot .cancelled .ok

/-- CANCEL (R114). -/
def State.takeCancel (s : State) (tag : Byte) : State :=
  match s.chg with
  | none => s.refuse 0x0D tag .notAllowed
  | some c =>
    match c.stage with
    | .fade | .bridge | .prepare | .reclass => (s.reply 0x0D tag (doneBody [])).failChange .cancelled .ok
    | .align | .settle => (s.reply 0x0D tag tooLateBody).cancelReselect c

/-- QUERY-OUTPUT (R115). -/
def State.takeQueryOutput (s : State) (tag : Byte) : State := s.reply 0x11 tag (doneBody s.outputBody)

/-! ## Coins and tests (R140, R149, R170) -/

/-- What follows a CREDIT that has changed the bank: the payout test and the COIN notice (R140, R148, log 27). -/
def State.creditFollows (s : State) (before : Nat) (cause : CoinCause) : State :=
  if s.coin.bank = before then s else s.payoutTest.coinNotice cause

/-- CREDIT: add with the count clamped into 1 to 99, or clear; a bank that changes is followed up (R140). -/
def State.takeCredit (s : State) (tag action n : Byte) : State :=
  if action = 0 then
    let k := clamp 1 99 n.toNat
    let lost := excess s.coin.bank k
    let t := s.modCoin fun c => c.addCredit k
    (t.reply 0x0F tag (doneBody [0, byteOf t.coin.bank, byteOf k, byteOf lost])).creditFollows s.coin.bank .creditAdded
  else if action = 1 then
    if s.coin.bank = 0 then s.reply 0x0F tag alreadyBody
    else
      let t := s.modCoin fun c => c.clearCredit
      (t.reply 0x0F tag (doneBody [1, 0, byteOf s.coin.bank, 0])).creditFollows s.coin.bank .creditCleared
  else s.refuse 0x0F tag .badValue

/-- QUERY-COIN (R149). -/
def State.takeQueryCoin (s : State) (tag : Byte) : State := s.reply 0x12 tag (doneBody s.coinBody)

/-- QUERY-TEST (R170, R184). -/
def State.takeQueryTest (s : State) (tag part : Byte) : State :=
  if 2 < part.toNat then s.refuse 0x13 tag .badValue else s.reply 0x13 tag (doneBody (s.tester.body part))

/-! ## A request that is taken (R175) -/

/-- A request is taken: refused by the link, or handed to the block that owns it (R175). -/
def State.takeRequest (s : State) (r : Request) : State :=
  match r.op with
  | .status => s.takeStatus r.tag
  | .notify set => s.takeNotify r.tag set
  | .restart => s.takeRestart r.tag
  | .setOutput x => s.takeSetOutput r.tag x
  | .setCabinet x => s.takeSetCabinet r.tag x
  | .setSlot slot flag p => s.takeSetSlot r.tag slot flag p
  | .setMap slot sources => s.takeSetMap r.tag slot sources
  | .setTrim slot level => s.takeSetTrim r.tag slot level
  | .setChord x => s.takeSetChord r.tag x
  | .slotWork slot count steps => s.takeSlotWork r.tag slot count steps
  | .abortWork slot => s.takeAbortWork r.tag slot
  | .select slot => s.takeSelect r.tag slot
  | .cancel => s.takeCancel r.tag
  | .capture setting => s.takeCapture r.tag setting
  | .credit action n => s.takeCredit r.tag action n
  | .querySlot slot => s.takeQuerySlot r.tag slot
  | .queryOutput => s.takeQueryOutput r.tag
  | .queryCoin => s.takeQueryCoin r.tag
  | .queryTest part => s.takeQueryTest r.tag part
  | .clearDip => s.takeClearDip r.tag
  | .unknown kind _ => s.refuse kind r.tag .unknownKind
  | .badLength kind _ => s.refuse kind r.tag .badLength

end Sys2Proof.Machine
end

