-- ==== Sys2Proof/Machine/Link.lean ====
section
/-! DEFINITION. The Controller Link (R172 to R177): bytes into the receive buffer, the framer, requests that wait for a
reply place, and messages that begin on the line. -/

namespace Sys2Proof.Machine

/-! ## The receive buffer (R173) -/

/-- Ticks in the 5 ms of the gap rule. -/
def gapTicks : Nat := ms 5

/-- A byte enters the receive buffer with its marks, or is lost when the buffer holds 256 bytes (R173). -/
def Link.keep (l : Link) (b : Byte) (gap : Bool) : Link :=
  if Config.rxSize ≤ l.rx.length then { l with lossPending := true }
  else { l with rx := l.rx ++ [{ byte := b, gap := gap, loss := l.lossPending }], lossPending := false }

/-- Whether more than 5 ms have passed since the end of the byte before (R173, log 9). -/
def gapBefore (last : Option Nat) (now : Nat) : Bool :=
  match last with
  | none => false
  | some t => decide (gapTicks < now - t)

/-- A byte arrives on the line (R173). -/
def State.byteArrives (s : State) (b : Byte) : State :=
  s.modLink fun l => { l.keep b (gapBefore l.lastByteAt s.now) with lastByteAt := some s.now }

/-! ## The framer (R174) -/

/-- What a byte makes of the framer. -/
inductive Framed
  | goes (f : Framer)
  | bad (f : Framer)
  | good (r : Request)
deriving DecidableEq, Repr

/-- A byte taken in HUNT; a loss mark on the start byte marks its frame (log 10). -/
def hunt (b : RxByte) : Framer := if b.byte = 0xA5 then .length b.loss else .hunt

/-- The request in a good frame's kind, tag and body. -/
def frameRequest : List Byte → Option Request
  | kind :: tag :: body => some { tag := tag, op := decodeRequest kind body }
  | _ => none

/-- Whether a check byte makes the sum of length, kind, tag, body and check 0 modulo 256 (R172). -/
def checkHolds (got : List Byte) (check : Byte) : Bool :=
  decide (byteSum (BitVec.ofNat 8 got.length :: got) + check = 0)

/-- The framer takes a byte that does not end its frame by a gap (R174). -/
def Framer.take (f : Framer) (b : RxByte) : Framed :=
  match f with
  | .hunt => .goes (Sys2Proof.Machine.hunt b)
  | .length loss =>
    if 2 ≤ b.byte.toNat ∧ b.byte.toNat ≤ 64 then .goes (.frame b.byte.toNat [] (loss || b.loss)) else .bad .hunt
  | .frame len got loss =>
    let got := got ++ [b.byte]
    if len ≤ got.length then .goes (.check got (loss || b.loss)) else .goes (.frame len got (loss || b.loss))
  | .check got loss =>
    match frameRequest got with
    | some r => if checkHolds got b.byte && !(loss || b.loss) then .good r else .bad .hunt
    | none => .bad .hunt

/-- The framer takes a byte: outside HUNT a gap mark ends the frame, which is bad, and the byte is hunted (R174). -/
def Framer.step (f : Framer) (b : RxByte) : Framed :=
  if b.gap && decide (f ≠ .hunt) then .bad (Sys2Proof.Machine.hunt b) else f.take b

/-- One more bad frame, up to 65,535 (R174). -/
def Link.countBad (l : Link) : Link := { l with badFrames := min 65535 (l.badFrames + 1) }

/-! ## Requests and reply places (R175, R176) -/

/-- A request is taken and handled whole, with all that it brings about (R175). -/
def State.handle (s : State) (r : Request) : State := (s.takeRequest r).cascade

/-- Whether a request can be taken at once: a place is free and no COMPLETION notice is held for it (R175, R176). -/
def Link.ready (l : Link) : Bool := l.held.isEmpty && l.hasPlace

/-- A request whose frame is complete is taken at once, or waits for a reply place (R175). -/
def State.offer (s : State) (r : Request) : State :=
  if s.link.ready then s.handle r else s.modLink fun l => { l with waiting := some r }

/-- Whether the framer takes bytes: not while a request waits, nor after a RESTART request (R173, R180). -/
def Link.taking (l : Link) : Bool := l.waiting.isNone && !l.restartPending

/-- The framer takes bytes from the head of the buffer while it may, at most `n` of them (R173, R174). -/
def drain : Nat → State → State
  | 0, s => s
  | n + 1, s =>
    if s.link.taking then
      match s.link.rx with
      | [] => s
      | b :: rest =>
        let t := s.modLink fun l => { l with rx := rest }
        match s.link.framer.step b with
        | .goes f => drain n (t.modLink fun l => { l with framer := f })
        | .bad f => drain n (t.modLink fun l => { l.countBad with framer := f })
        | .good r => drain n ((t.modLink fun l => { l with framer := .hunt }).offer r)
    else s

/-- The framer takes all the bytes it may. -/
def State.drainAll (s : State) : State := drain Config.rxSize s

/-- Bytes arrive one after another, and the framer takes each as it may (R173, R174). -/
def State.bytesArrive (s : State) (bs : List Byte) : State := bs.foldl (fun t b => (t.byteArrives b).drainAll) s

/-- Whether a frame that arrives now meets a framer that hunts, with nothing in the buffer and no byte lost before it:
then a good frame is handed on whole (R174). -/
def Link.clear (l : Link) : Bool :=
  l.taking && decide (l.framer = .hunt) && l.rx.isEmpty && !l.lossPending

/-- The time of the last byte's end is this moment. -/
def State.byteEnds (s : State) : State := s.modLink fun l => { l with lastByteAt := some s.now }

/-- A request of the controller stands for the bytes of its frame, the last of which ends now. On a clear link its good
frame is handed on: the request is taken, or waits for a reply place. Otherwise its bytes meet the buffer and the framer
as they stand (R173, R174, R175, log 6). -/
def State.submit (s : State) (r : Request) : State :=
  if s.link.clear then s.byteEnds.offer r else s.bytesArrive r.frame

/-! ## The transmit line (R176) -/

/-- The oldest held COMPLETION notice joins the transmit queue (R33, R176). While the reply to a RESTART waits to be sent, the
held notices stay where they are (R180; DEDUCED that this goes before R176, log 38). -/
def State.releaseHeld (s : State) : State :=
  match s.link.restartPending, s.link.held with
  | false, m :: rest => (s.modLink fun l => { l with held := rest }).enqueue m
  | _, _ => s

/-- A reply-and-completion place that has been freed goes to the oldest held COMPLETION notice, else to the waiting
request, which is then taken, and the framer goes on (R176). -/
def State.placeFreed (s : State) : State :=
  match s.link.held with
  | _ :: _ => s.releaseHeld
  | [] =>
    match s.link.waiting with
    | some r => ((s.modLink fun l => { l with waiting := none }).handle r).drainAll
    | none => s

/-- The head of the transmit queue begins on an idle line and frees its place (R176). -/
def State.beginMessage (s : State) : State :=
  match s.link.sending, s.link.txq with
  | none, m :: rest =>
    let s := s.modLink fun l => { l with sending := some m, txq := rest }
    if m.isGroup then s.placeFreed else s
  | _, _ => s

/-- The end of an event: its tasks are done, and the next message begins if the line is idle (log 7, log 18). -/
def State.finish (s : State) : State := s.cascade.beginMessage

/-- A held COMPLETION notice takes a free place (R33, R176). -/
def State.queueHeld (s : State) : State := if s.link.hasPlace then s.releaseHeld else s

/-- The bytes of a message's frame as the part sends them, built as every frame is (R172). -/
def Message.frame (m : Message) : List Byte := frameBytes m.kind m.tag m.body

/-- The bytes of the message on the transmit line; none while it is idle (R172). -/
def Link.line (l : Link) : List Byte :=
  match l.sending with
  | some m => m.frame
  | none => []

/-- Whether the message on the line is the reply of a RESTART that waits to be taken (R180). -/
def Link.restartSent (l : Link) : Bool :=
  l.restartPending &&
    (match l.sending with
     | some m => decide (m.kind = 0x83) && decide (m.body = doneBody [])
     | none => false)

end Sys2Proof.Machine
end

