-- ==== Sys2Proof/Machine/Resets.lean ====
section
/-! DEFINITION. A RESTART as every block takes it (R24, R41, R64, R87, R116, R131, R151, R162, R171, R180), and the
hard reset and the reset line (R181). -/

namespace Sys2Proof.Machine

/-! ## RESTART -/

/-- A slot that stays unpowered through a RESTART, in a state: its records of the running are cleared (R24). -/
def Slot.restartedIn (sl : Slot) (st : SlotState) (rest : Option Nat) : Slot :=
  { sl with state := st, rest := rest, restWaiting := false, warm := none, lastProbe := none, testReturn := none,
            probeReturn := none, shedPending := false, restartUnderWay := false, faultAtEnd := false }

/-- A slot whose switch a RESTART opens (R24). -/
def Slot.restartedOff (sl : Slot) (now : Nat) : Slot :=
  let time := match sl.setup with | some su => su.profile.rest | none => 0
  { sl.restartedIn .resting (some (now + ms time)) with power := false }

/-- A slot after a RESTART (R24; a slot in TESTING whose hold timer expired takes its SYNC_LOST fault, log 28). -/
def Slot.restarted (sl : Slot) (now : Nat) : Slot :=
  match sl.state with
  | .unconfigured => sl.restartedIn .unconfigured none
  | .off => sl.restartedIn .off none
  | .resting => sl.restartedIn .resting sl.rest
  | .waiting => sl.restartedIn .off none
  | .starting | .warm | .probing | .ready | .active => sl.restartedOff now
  | .fault => if sl.power then sl.restartedOff now else sl.restartedIn .fault sl.rest
  | .testing =>
    if sl.power then sl.restartedOff now
    else
      let t := sl.restartedIn (sl.testReturn.getD .off) sl.rest
      if sl.faultAtEnd then { t with lastFault := some .syncLost } else t

/-- A function on each of eight records. -/
def mapEight {α β : Type} (f : α → β) (v : Vector α 8) : Vector β 8 :=
  #v[f v[0], f v[1], f v[2], f v[3], f v[4], f v[5], f v[6], f v[7]]

/-- The output record after a RESTART (R87). -/
def Output.restarted (o : Output) (now : Nat) : Output :=
  { Output.reset with timing := o.timing, current := o.timing, frameStart := now, classOut := o.classOut }

/-- The tester after a RESTART: FREE, a running test INCOMPLETE (R169, R171). -/
def Tester.restarted (t : Tester) : Tester :=
  { run := none, wait := []
    record := if t.run.isSome then t.record.map fun r => { r with verdict := some .incomplete } else t.record }

/-- A meter after a RESTART: a pulse whose ON phase has run counts as done; the rest is pulsed again (R151). -/
def Meter.restarted (m : Meter) (now : Nat) (set : CoinSettings) : Meter :=
  let done := decide (m.phase = .off) || (decide (m.phase = .on) && decide (m.ends ≤ now))
  Meter.wake { m with pending := m.pending - bit done, phase := .idle } now set

/-- A coin input after a RESTART: OPEN with its switch open, in JAM with its switch closed (R151). -/
def CoinIn.restarted (r : CoinIn) : CoinIn := { r with state := if r.closed then .jam else .idle }

/-- The totals with a jam counted for an input that a RESTART takes from TIMING to JAM (R151). -/
def CoinUnit.countRestartJam (c : CoinUnit) (x : CoinInput) : CoinUnit :=
  let r := c.input x
  if r.state = .timing ∧ r.closed = true then { c with totals := c.totals.countJam x } else c

/-- The Coin Unit after a RESTART (R151). -/
def CoinUnit.restarted (c : CoinUnit) (now : Nat) : CoinUnit :=
  let c := (c.countRestartJam .a).countRestartJam .b
  { c with
    inA := c.inA.restarted, inB := c.inB.restarted, pulse := none
    meter1 := c.meter1.restarted now c.settings, meter2 := c.meter2.restarted now c.settings }

/-- The Control Router after a RESTART: capture off, the chord taken afresh (R131). -/
def Controls.restarted (c : Controls) (now : Nat) : Controls := Controls.freshChord { c with capture := false } now

/-- The link after a RESTART: its queues emptied and START-UP queued first (R180). -/
def Link.restarted (l : Link) : Link :=
  { l with rx := [], lossPending := false, framer := .hunt, waiting := none, txq := [Message.startUp 2],
           sending := none, held := [], cause := .restart, restartPending := false }

/-- The COIN notice of an input that a RESTART finds in JAM (R151). -/
def State.restartJamNotice (s : State) (x : CoinInput) : State :=
  if (s.coin.input x).state = .jam then s.coinNotice (.jam x) else s

/-- Every block takes its RESTART values; then COIN notices for inputs in JAM follow START-UP (R180, R151). DESIGN CHOICE
(log 34): with both inputs in JAM the notice of input A is queued first, so that of input B takes its place (R177). -/
def State.restarted (s : State) : State :=
  let t : State :=
    { s with
      slots := mapEight (fun sl => Slot.restarted sl s.now) s.slots
      supply := { permit := none, waitList := [], dip := false, level := s.supply.level }
      queues := Vector.replicate 8 Queue.reset
      engines := Vector.replicate 2 none
      probeList := []
      out := s.out.restarted s.now
      chg := none
      controls := s.controls.restarted s.now
      coin := s.coin.restarted s.now
      sampler := Sampler.reset
      tester := s.tester.restarted
      link := s.link.restarted
      todo := [] }
  (t.restartJamNotice .a).restartJamNotice .b

/-! ## Hard reset (R181) -/

/-- A coin input after a hard reset: a closed switch is a new closure from the end of the reset (R150). -/
def CoinIn.fresh (r : CoinIn) (now : Nat) : CoinIn :=
  { state := if r.closed then .timing else .idle, since := now, closed := r.closed }

/-- The start-up cause of a hard reset (R181). -/
def ResetCause.startCause : ResetCause → StartCause
  | .powerOn => .powerOn
  | .resetLine => .resetLine

/-- The link after a hard reset, START-UP queued first (R181). -/
def Link.fresh (cause : StartCause) : Link :=
  { Link.reset with txq := [Message.startUp cause.code], sending := none, cause := cause }

/-- A tap after a hard reset: its detectors start afresh, its inputs stand where they are (R43, R64, log 12). -/
def Tap.fresh (t : Tap) : Tap := { Tap.reset with lineHigh := t.lineHigh, frameHigh := t.frameHigh }

/-- The part after a hard reset: the values of State.reset, timed from now, with the pins and the queue of commands as
they are (R23, R41, R64, R87, R116, R131, R150, R162, R171, R181). -/
def State.hardReset (s : State) (cause : ResetCause) : State :=
  let r := State.reset
  { r with
    now := s.now
    taps := s.taps.map Tap.fresh
    out := { r.out with frameStart := s.now }
    classDeadline := s.after 500
    controls := Controls.freshChord { r.controls with panel := s.controls.panel } s.now
    coin := { r.coin with inA := s.coin.inA.fresh s.now, inB := s.coin.inB.fresh s.now }
    senses := s.senses
    link := Link.fresh (Sys2Proof.Machine.ResetCause.startCause cause)
    pending := s.pending }

/-- The reset line has been asserted for 10 ms: every switch is open and the transmit line idle, until the release, and
`inReset` puts every slot's drive mode in PARK, its connector released, a slot under test among them (R124, R181,
log 11). -/
def State.holdReset (s : State) : State :=
  let s := { s with slots := mapEight (fun (sl : Slot) => { sl with power := false }) s.slots }
  s.modLink fun l => { l with inReset := true, sending := none }

/-! ## While held in reset (log 11) -/

/-- A panel line changes level while the part is held in reset: only the pin. -/
def State.pinPanel (s : State) (n : LineNo) (asserted : Bool) : State :=
  s.modControls fun c => c.setPanel n asserted

/-- A coin switch changes while the part is held in reset: only the pin. -/
def State.pinCoin (s : State) (x : CoinInput) (closed : Bool) : State :=
  s.modCoin fun c => c.setInput x { c.input x with closed := closed }

/-- A lockout sense takes a level (R141). -/
def State.setSense (s : State) (i : SlotNo) (d : CoinDrive) (high : Bool) : State :=
  let x := s.sense i
  let y : Senses := match d with | .c1 => { x with l1 := high } | .c2 => { x with l2 := high }
  { s with senses := s.senses.set i.val y i.isLt }

/-- A change of a lockout sense: the payout test follows a release of it (R142). -/
def State.senseChange (s : State) (i : SlotNo) (d : CoinDrive) (high : Bool) : State :=
  (s.setSense i d high).push [.payout]

end Sys2Proof.Machine
end

