-- ==== Sys2Proof/Machine/Event.lean ====
section
/-! DEFINITION. How every command is taken: time passes, a part held in reset ignores it, otherwise its effect and all
that it brings about are done and the next message begins (log 1, log 7, log 11, log 18). -/

namespace Sys2Proof.Machine

/-- What a command answers. -/
abbrev Outcome := Host.Outcome State Fault Refusal

/-- A command of a part that is not held in reset (R181). -/
def live (dt : Nat) (effect : State → State) (s : State) : Outcome :=
  let t := s.advance dt
  if t.link.inReset then .next t else .next (effect t).finish

/-- A command that also changes a pin, which it does while the part is held in reset too (log 11). -/
def livePin (dt : Nat) (pin effect : State → State) (s : State) : Outcome :=
  let t := s.advance dt
  if t.link.inReset then .next (pin t) else .next (effect t).finish

/-- A request of the controller (R175, log 6). -/
def request (dt : Nat) (tag : Byte) (op : ReqOp) (s : State) : Outcome :=
  live dt (fun t => t.submit { tag := tag, op := op }) s

end Sys2Proof.Machine
end

