-- ==== Sys2Proof/Machine/CabinetCommands.lean ====
section
/-! DEFINITION. The commands of the panel, the coins, the meters, the harness and the picture (R117, R128, R134, R142 to R147, R153,
R167). -/

namespace Sys2Proof.Machine

/-- PANEL_CHANGE: a panel line changes level (R117). -/
def execPanelChange (dt : Nat) (n : LineNo) (asserted : Bool) (s : State) : Outcome :=
  livePin dt (fun t => t.pinPanel n asserted) (fun t => t.panelChange n asserted) s

/-- CHORD_HOLD_TIMER_END: the chord's hold timer reaches the hold time (R128). -/
def execChordHoldTimerEnd (dt : Nat) (s : State) : Outcome := live dt State.chordEnds s

/-- COIN_SWITCH_CHANGE: a coin switch closes or opens (R134). -/
def execCoinSwitchChange (dt : Nat) (x : CoinInput) (closed : Bool) (s : State) : Outcome :=
  livePin dt (fun t => t.pinCoin x closed) (fun t => t.coinSwitch x closed) s

/-- COIN_PULSE_MAXIMUM: a closure has lasted the pulse maximum (R134, R139). -/
def execCoinPulseMaximum (dt : Nat) (x : CoinInput) (s : State) : Outcome := live dt (fun t => t.coinMaximum x) s

/-- LOCKOUT_SENSE_CHANGE: a lockout sense takes a level (R141, R142). -/
def execLockoutSenseChange (dt : Nat) (i : SlotNo) (d : CoinDrive) (high : Bool) (s : State) : Outcome :=
  livePin dt (fun t => t.setSense i d high) (fun t => t.senseChange i d high) s

/-- PAYOUT_ON_TIME_END: the on time of the pulse in flight ends (R143). -/
def execPayoutOnTimeEnd (dt : Nat) (s : State) : Outcome :=
  live dt (fun t =>
    match t.coin.pulse with
    | some p => if p.on then (t.reach p.ends).pulseOnEnds p else t
    | none => t) s

/-- PAYOUT_OFF_TIME_END: the off time of the pulse in flight ends (R143). -/
def execPayoutOffTimeEnd (dt : Nat) (s : State) : Outcome :=
  live dt (fun t =>
    match t.coin.pulse with
    | some p => if p.on then t else (t.reach p.ends).pulseOffEnds
    | none => t) s

/-- METER_ON_END: the on time of a meter pulse ends (R147). -/
def execMeterOnEnd (dt : Nat) (m : MeterNo) (s : State) : Outcome :=
  live dt (fun t =>
    let r := t.coin.meter m
    if r.phase = .on then
      let u := t.reach r.ends
      u.modCoin fun c => c.setMeter m (r.onEnds u.now)
    else t) s

/-- METER_OFF_END: the off time of a meter pulse ends (R147). -/
def execMeterOffEnd (dt : Nat) (m : MeterNo) (s : State) : Outcome :=
  live dt (fun t =>
    let r := t.coin.meter m
    if r.phase = .off then
      let u := t.reach r.ends
      u.modCoin fun c => c.setMeter m (r.offEnds u.now c.settings)
    else t) s

/-- HARNESS_PATTERN_END: the 2 ms of the present pattern end and the senses are read (R167). -/
def execHarnessPatternEnd (dt : Nat) (senses : Lines) (s : State) : Outcome :=
  live dt (fun t =>
    match t.tester.run with
    | none => t
    | some r => (t.reach r.ends).patternEnds r senses) s

/-- GRID_POINT_SAMPLE: the picture is sampled at the next grid point (R153, R154). -/
def execGridPointSample (dt : Nat) (red green blue : Bool) (s : State) : Outcome :=
  live dt (fun t => t.gridSample red green blue) s

end Sys2Proof.Machine
end

