-- ==== Sys2Proof/Machine/LinkCommands.lean ====
section
/-! DEFINITION. The commands of the serial line and of the resets (R173 to R181). -/

namespace Sys2Proof.Machine

/-- RECEIVE_BYTE: a byte enters the receive buffer and the framer takes what it may (R173, R174). -/
def execReceiveByte (dt : Nat) (b : Byte) (s : State) : Outcome :=
  live dt (fun t => (t.byteArrives b).drainAll) s

/-- MESSAGE_SENT: the last byte of the message on the line has been sent. After the reply of a RESTART, the RESTART is
taken; otherwise the next message begins (R176, R180, log 22). Nothing on an idle line. -/
def execMessageSent (dt : Nat) (s : State) : Outcome :=
  live dt (fun t => if t.link.restartSent then t.restarted else t.modLink fun l => { l with sending := none }) s

/-- HELD_COMPLETION_QUEUED: a held COMPLETION notice takes a free place (R33, R176, log 8). -/
def execHeldCompletionQueued (dt : Nat) (s : State) : Outcome := live dt State.queueHeld s

/-- RESTART_TAKEN: the last byte of a RESTART's reply has been sent, and every block takes the RESTART (R180, log 22).
Nothing while another message, or none, is on the line. -/
def execRestartTaken (dt : Nat) (s : State) : Outcome :=
  live dt (fun t => if t.link.restartSent then t.restarted else t) s

/-- RESET_LINE_HELD: the reset line has been held asserted for 10 ms (R181). -/
def execResetLineHeld (dt : Nat) (s : State) : Outcome := .next (s.advance dt).holdReset

/-- HARD_RESET: every block takes its hard-reset values and START-UP is queued (R181). DESIGN CHOICE (log 37): with the
cause RESET_LINE it does so at once also where no RESET_LINE_HELD has come before it, the assertion, its 10 ms and the
release having passed within the command's own time. -/
def execHardReset (dt : Nat) (cause : ResetCause) (s : State) : Outcome :=
  .next ((s.advance dt).hardReset cause).finish

end Sys2Proof.Machine
end

