-- ==== Sys2Proof/Machine/OutputCommands.lean ====
section
/-! DEFINITION. The commands of the output path and the changeover: the bridge, audio steps, timers (R69, R74, R78, R83, R85, R94,
R98, R100, R102, R105). -/

namespace Sys2Proof.Machine

/-- BRIDGE_FRAME_START: a bridge frame ends and the next begins at the programmed timing; a RECLASS that counts bridge
frames counts it (R69, R100). -/
def execBridgeFrameStart (dt : Nat) (s : State) : Outcome :=
  live dt (fun t => (t.reach (t.out.frameStart + t.out.current.frameTicks)).frameStarts.reclassFrame) s

/-- AUDIO_STEP: the gain moves one step toward its target; FADE may end (R74, R93). -/
def execAudioStep (dt : Nat) (s : State) : Outcome :=
  live dt (fun t => (t.modOut fun o => { o with gain := stepGain o.gain o.target }).push [.fade]) s

/-- WATCH_FRAME_TIMER_END: no frame pulse of the source slot for 100 ms (R78). -/
def execWatchFrameTimerEnd (dt : Nat) (s : State) : Outcome := live dt State.watchTimerEnds s

/-- HOLD_TIMER_EXPIRY: the hold timer ends (R85, R160). -/
def execHoldTimerExpiry (dt : Nat) (s : State) : Outcome := live dt State.holdTimerEnds s

/-- BRIDGE_STAGE_TIMER_END: the 250 ms mark of BRIDGE (R94). -/
def execBridgeStageTimerEnd (dt : Nat) (s : State) : Outcome := live dt State.bridgeTimerEnds s

/-- PREPARE_TIMEOUT: the prepare timer ends (R98). -/
def execPrepareTimeout (dt : Nat) (s : State) : Outcome := live dt State.prepareTimerEnds s

/-- CLASS_SETTLE_DEADLINE: the monitor has settled in its class (R100). -/
def execClassSettleDeadline (dt : Nat) (s : State) : Outcome :=
  live dt (fun t => (t.reach t.classDeadline).reclassDeadline) s

/-- ALIGN_TIMEOUT: the 250 ms mark of ALIGN, of a changeover or of a rejoin (R102, R83). -/
def execAlignTimeout (dt : Nat) (s : State) : Outcome := live dt State.alignTimerEnds s

/-- SETTLE_FRAME_TIMER_END: the 100 ms mark of SETTLE, of a changeover or of a rejoin (R105, R83). -/
def execSettleFrameTimerEnd (dt : Nat) (s : State) : Outcome := live dt State.settleTimerEnds s

end Sys2Proof.Machine
end

