-- ==== Sys2Proof/Machine/RequestCommands.lean ====
section
/-! DEFINITION. The requests of the controller as commands, one definition each. -/

namespace Sys2Proof.Machine

/-- STATUS: a snapshot of the part is answered (R179). -/
def execStatus (dt : Nat) (tag : Byte) (s : State) : Outcome := request dt tag .status s

/-- NOTIFY: the notice set is replaced (R178). -/
def execNotify (dt : Nat) (tag set : Byte) (s : State) : Outcome := request dt tag (.notify set) s

/-- RESTART: it is answered DONE and waits for that reply to be sent (R180). -/
def execRestart (dt : Nat) (tag : Byte) (s : State) : Outcome := request dt tag .restart s

/-- SET-OUTPUT: the output settings are stored (R72). -/
def execSetOutput (dt : Nat) (tag : Byte) (r : RawOutput) (s : State) : Outcome := request dt tag (.setOutput r) s

/-- SET-CABINET: the cabinet settings are stored (R133). -/
def execSetCabinet (dt : Nat) (tag : Byte) (r : RawCabinet) (s : State) : Outcome := request dt tag (.setCabinet r) s

/-- SET-SLOT with the disable flag clear: the profile is stored (R3, R4). -/
def execSetSlot (dt : Nat) (tag slot : Byte) (p : RawProfile) (s : State) : Outcome := request dt tag (.setSlot slot 0 p) s

/-- SET-SLOT with the disable flag set: the slot becomes UNCONFIGURED (R5). Its profile bytes are not read (R183). -/
def execSetSlotDisable (dt : Nat) (tag slot : Byte) (s : State) : Outcome := request dt tag (.setSlot slot 1 unreadProfile) s

/-- SET-MAP: an input map is stored or staged (R122). -/
def execSetMap (dt : Nat) (tag slot : Byte) (sources : Vector Byte 24) (s : State) : Outcome := request dt tag (.setMap slot sources) s

/-- SET-TRIM: an audio level is stored or staged (R75). -/
def execSetTrim (dt : Nat) (tag slot level : Byte) (s : State) : Outcome := request dt tag (.setTrim slot level) s

/-- SET-CHORD: the chord is replaced (R130). -/
def execSetChord (dt : Nat) (tag : Byte) (r : RawChord) (s : State) : Outcome := request dt tag (.setChord r) s

/-- SLOT-WORK: an entry is placed in a work queue (R34). -/
def execSlotWork (dt : Nat) (tag slot count : Byte) (steps : Vector RawStep 4) (s : State) : Outcome := request dt tag (.slotWork slot count steps) s

/-- ABORT-WORK: the controller entries of a slot end ABORTED (R35). -/
def execAbortWork (dt : Nat) (tag slot : Byte) (s : State) : Outcome := request dt tag (.abortWork slot) s

/-- SELECT: a changeover starts, is retargeted, or holds a reselect (R89). -/
def execSelect (dt : Nat) (tag slot : Byte) (s : State) : Outcome := request dt tag (.select slot) s

/-- CANCEL: a changeover fails CANCELLED before ALIGN (R114). -/
def execCancel (dt : Nat) (tag : Byte) (s : State) : Outcome := request dt tag .cancel s

/-- CAPTURE: the capture flag is set (R125). -/
def execCapture (dt : Nat) (tag setting : Byte) (s : State) : Outcome := request dt tag (.capture setting) s

/-- CREDIT add: service credit goes into the bank (R140). -/
def execCreditAdd (dt : Nat) (tag n : Byte) (s : State) : Outcome := request dt tag (.credit 0 n) s

/-- CREDIT clear: the bank is cleared (R140). -/
def execCreditClear (dt : Nat) (tag : Byte) (s : State) : Outcome := request dt tag (.credit 1 0) s

/-- QUERY-SLOT: a slot's record is answered (R22). -/
def execQuerySlot (dt : Nat) (tag slot : Byte) (s : State) : Outcome := request dt tag (.querySlot slot) s

/-- QUERY-OUTPUT: the output record is answered (R115). -/
def execQueryOutput (dt : Nat) (tag : Byte) (s : State) : Outcome := request dt tag .queryOutput s

/-- QUERY-COIN: the Coin Unit's records are answered (R149). -/
def execQueryCoin (dt : Nat) (tag : Byte) (s : State) : Outcome := request dt tag .queryCoin s

/-- QUERY-TEST: a part of the test record is answered (R170, R184). -/
def execQueryTest (dt : Nat) (tag part : Byte) (s : State) : Outcome := request dt tag (.queryTest part) s

/-- CLEAR-DIP: the supply-dip mark is cleared (R21). -/
def execClearDip (dt : Nat) (tag : Byte) (s : State) : Outcome := request dt tag .clearDip s

/-- A frame of a kind that names no request, or of a wrong length: refused UNKNOWN_KIND or BAD_LENGTH (R175). -/
def execUnknownKind (dt : Nat) (kind tag : Byte) (body : List Byte) (s : State) : Outcome :=
  request dt tag (decodeRequest kind body) s

end Sys2Proof.Machine
end

