-- ==== Sys2Proof/Machine/SlotCommands.lean ====
section
/-! DEFINITION. The commands of board power and work: timer ends, trips and dips (R10, R12, R14, R20, R29). -/

namespace Sys2Proof.Machine

/-- PAUSE_END: a PAUSE step's timer ends and the step ends OK (R29). -/
def execPauseEnd (dt : Nat) (i : SlotNo) (s : State) : Outcome :=
  live dt (fun t =>
    match (t.queue i).pauseEnd with
    | none => t
    | some tick =>
      ((t.reach tick).modQueue i fun q => { q with pauseEnd := none }).push [.stepEnd i .ok none]) s

/-- WARM_UP_END: a warm-up timer ends (R10). -/
def execWarmUpEnd (dt : Nat) (i : SlotNo) (s : State) : Outcome :=
  live dt (fun t =>
    match (t.slot i).warm with
    | none => t
    | some tick => (t.reach tick).warmUpEnds i) s

/-- REST_TIMER_END: a rest timer ends (R14). -/
def execRestTimerEnd (dt : Nat) (i : SlotNo) (s : State) : Outcome :=
  live dt (fun t =>
    match (t.slot i).rest with
    | none => t
    | some tick => (t.reach tick).restEnds i) s

/-- POWER_TRIP: overcurrent opens a slot's switch (R12). -/
def execPowerTrip (dt : Nat) (i : SlotNo) (s : State) : Outcome := live dt (fun t => t.trip i) s

/-- SUPPLY_DIP: the rail has been low for 1 ms; the mark is set, with a notice when it was clear (R20). -/
def execSupplyDip (dt : Nat) (s : State) : Outcome :=
  live dt (fun t =>
    if t.supply.dip then t else (t.modSupply fun p => { p with dip := true }).supplyNotice) s

end Sys2Proof.Machine
end

