-- ==== Sys2Proof/Machine/SyncCommands.lean ====
section
/-! DEFINITION. The commands of the sync taps and the timing engines (R42, R43, R51, R53). -/

namespace Sys2Proof.Machine

/-- LINE_PULSE: an edge of a slot's line sync input leaves the tap's delay (R42). -/
def execLinePulse (dt : Nat) (e : LineEdge) (s : State) : Outcome :=
  livePin dt (fun t => t.setLineLevel e) (fun t => t.lineEdge e) s

/-- FRAME_PULSE: an edge of a slot's frame sync input leaves the tap's delay, the width of its pulse known (R42). -/
def execFramePulse (dt : Nat) (e : FrameEdge) (s : State) : Outcome :=
  livePin dt (fun t => t.setFrameLevel e) (fun t => t.frameEdge e) s

/-- PULSE_LEVEL_WINDOW_END: each input's pulse level becomes the level it held for the shorter time (R43, log 29). -/
def execPulseLevelWindowEnd (dt : Nat) (i : SlotNo) (lineLow frameLow : Nat) (s : State) : Outcome :=
  live dt (fun t => t.modTap i fun x =>
    { x with
      linePulseHigh := nextPulseLevel x.linePulseHigh lineLow
      framePulseHigh := nextPulseLevel x.framePulseHigh frameLow }) s

/-- PROBE_FRAME_WATCH_END: the frame watch of an engine's probe reaches 100 ms (R53). -/
def execProbeFrameWatchEnd (dt : Nat) (k : EngineNo) (s : State) : Outcome := live dt (fun t => t.frameWatchEnds k) s

/-- LINE_PERIOD_OVERFLOW: the line-period counter of an engine's probe would pass its maximum (R51). -/
def execLinePeriodOverflow (dt : Nat) (k : EngineNo) (s : State) : Outcome := live dt (fun t => t.lineOverflows k) s

end Sys2Proof.Machine
end

