-- ==== Sys2Proof/Machine/Dispatch.lean ====
section
/-! DEFINITION. One arm for each command. -/

namespace Sys2Proof.Machine

def exec (i : Instr) (s : State) : Host.Outcome State Fault Refusal :=
  match i with
  | .status dt tag => Sys2Proof.Machine.execStatus dt tag s
  | .notify dt tag set => Sys2Proof.Machine.execNotify dt tag set s
  | .restart dt tag => Sys2Proof.Machine.execRestart dt tag s
  | .restartTaken dt => Sys2Proof.Machine.execRestartTaken dt s
  | .setOutput dt tag r => Sys2Proof.Machine.execSetOutput dt tag r s
  | .setCabinet dt tag r => Sys2Proof.Machine.execSetCabinet dt tag r s
  | .setSlot dt tag slot p => Sys2Proof.Machine.execSetSlot dt tag slot p s
  | .setSlotDisable dt tag slot => Sys2Proof.Machine.execSetSlotDisable dt tag slot s
  | .setMap dt tag slot sources => Sys2Proof.Machine.execSetMap dt tag slot sources s
  | .setTrim dt tag slot level => Sys2Proof.Machine.execSetTrim dt tag slot level s
  | .setChord dt tag r => Sys2Proof.Machine.execSetChord dt tag r s
  | .slotWork dt tag slot count steps => Sys2Proof.Machine.execSlotWork dt tag slot count steps s
  | .abortWork dt tag slot => Sys2Proof.Machine.execAbortWork dt tag slot s
  | .select dt tag slot => Sys2Proof.Machine.execSelect dt tag slot s
  | .cancel dt tag => Sys2Proof.Machine.execCancel dt tag s
  | .capture dt tag setting => Sys2Proof.Machine.execCapture dt tag setting s
  | .creditAdd dt tag n => Sys2Proof.Machine.execCreditAdd dt tag n s
  | .creditClear dt tag => Sys2Proof.Machine.execCreditClear dt tag s
  | .querySlot dt tag slot => Sys2Proof.Machine.execQuerySlot dt tag slot s
  | .queryOutput dt tag => Sys2Proof.Machine.execQueryOutput dt tag s
  | .queryCoin dt tag => Sys2Proof.Machine.execQueryCoin dt tag s
  | .queryTest dt tag part => Sys2Proof.Machine.execQueryTest dt tag part s
  | .clearDip dt tag => Sys2Proof.Machine.execClearDip dt tag s
  | .unknownKind dt kind tag body => Sys2Proof.Machine.execUnknownKind dt kind tag body s
  | .receiveByte dt b => Sys2Proof.Machine.execReceiveByte dt b s
  | .messageSent dt => Sys2Proof.Machine.execMessageSent dt s
  | .heldCompletionQueued dt => Sys2Proof.Machine.execHeldCompletionQueued dt s
  | .resetLineHeld dt => Sys2Proof.Machine.execResetLineHeld dt s
  | .hardReset dt cause => Sys2Proof.Machine.execHardReset dt cause s
  | .pauseEnd dt slot => Sys2Proof.Machine.execPauseEnd dt slot s
  | .warmUpEnd dt slot => Sys2Proof.Machine.execWarmUpEnd dt slot s
  | .restTimerEnd dt slot => Sys2Proof.Machine.execRestTimerEnd dt slot s
  | .powerTrip dt slot => Sys2Proof.Machine.execPowerTrip dt slot s
  | .supplyDip dt => Sys2Proof.Machine.execSupplyDip dt s
  | .linePulse dt edge => Sys2Proof.Machine.execLinePulse dt edge s
  | .framePulse dt edge => Sys2Proof.Machine.execFramePulse dt edge s
  | .pulseLevelWindowEnd dt slot lineLow frameLow => Sys2Proof.Machine.execPulseLevelWindowEnd dt slot lineLow frameLow s
  | .probeFrameWatchEnd dt engine => Sys2Proof.Machine.execProbeFrameWatchEnd dt engine s
  | .linePeriodOverflow dt engine => Sys2Proof.Machine.execLinePeriodOverflow dt engine s
  | .bridgeFrameStart dt => Sys2Proof.Machine.execBridgeFrameStart dt s
  | .audioStep dt => Sys2Proof.Machine.execAudioStep dt s
  | .watchFrameTimerEnd dt => Sys2Proof.Machine.execWatchFrameTimerEnd dt s
  | .holdTimerExpiry dt => Sys2Proof.Machine.execHoldTimerExpiry dt s
  | .bridgeStageTimerEnd dt => Sys2Proof.Machine.execBridgeStageTimerEnd dt s
  | .prepareTimeout dt => Sys2Proof.Machine.execPrepareTimeout dt s
  | .classSettleDeadline dt => Sys2Proof.Machine.execClassSettleDeadline dt s
  | .alignTimeout dt => Sys2Proof.Machine.execAlignTimeout dt s
  | .settleFrameTimerEnd dt => Sys2Proof.Machine.execSettleFrameTimerEnd dt s
  | .panelChange dt line asserted => Sys2Proof.Machine.execPanelChange dt line asserted s
  | .chordHoldTimerEnd dt => Sys2Proof.Machine.execChordHoldTimerEnd dt s
  | .coinSwitchChange dt input closed => Sys2Proof.Machine.execCoinSwitchChange dt input closed s
  | .coinPulseMaximum dt input => Sys2Proof.Machine.execCoinPulseMaximum dt input s
  | .lockoutSenseChange dt slot sense high => Sys2Proof.Machine.execLockoutSenseChange dt slot sense high s
  | .payoutOnTimeEnd dt => Sys2Proof.Machine.execPayoutOnTimeEnd dt s
  | .payoutOffTimeEnd dt => Sys2Proof.Machine.execPayoutOffTimeEnd dt s
  | .meterOnEnd dt meter => Sys2Proof.Machine.execMeterOnEnd dt meter s
  | .meterOffEnd dt meter => Sys2Proof.Machine.execMeterOffEnd dt meter s
  | .harnessPatternEnd dt senses => Sys2Proof.Machine.execHarnessPatternEnd dt senses s
  | .gridPointSample dt red green blue => Sys2Proof.Machine.execGridPointSample dt red green blue s

end Sys2Proof.Machine
end

