-- ==== Sys2Proof/Safety.lean ====
section
/-! DEFINITION. What holds of the part between events: the conditions under which commands are taken, and the laws that
every step keeps. -/

namespace Sys2Proof.Machine

/-! ## Conditions on a state -/

/-- The part is between two events and not held in reset (R181, log 18). -/
def State.Between (s : State) : Prop := s.todo = [] ∧ s.link.inReset = false

/-- The link takes a request at once: the framer hunts and is not stopped, no byte waits or has been lost, no COMPLETION
notice is held and a reply place is free (R174, R175, R176). -/
def State.TakesRequests (s : State) : Prop := s.Between ∧ s.link.clear = true ∧ s.link.ready = true

/-- The state in which a request is taken: its time has passed and its last byte has ended (log 6). -/
def State.received (s : State) (dt : Nat) : State := (s.advance dt).byteEnds

/-- A slot that SET-SLOT may not touch: the source slot, the changeover's target or pending reselect, or a slot with work in
its queue (R3). -/
def State.InUse (s : State) (i : SlotNo) : Prop :=
  s.out.source = some i ∨
  (∃ c, s.chg = some c ∧ (c.toSlot = some i ∨ ∃ r, c.reselect = some r ∧ r.slot = some i)) ∨
  (s.queue i).ctrl ≠ [] ∨ (s.queue i).out ≠ none

/-! ## The steps of a prepare entry (R37) -/

/-- R37's table for one state: POWER_ON and PROBE for an unpowered or starting slot, PROBE for a powered one. -/
def StepsFor (st : SlotState) (power : Bool) (steps : List WorkStep) : Prop :=
  (st ∈ [SlotState.off, .resting, .waiting, .starting] ∨ st = .fault ∧ power = false → steps = [.powerOn, .probe]) ∧
  (st ∈ [SlotState.warm, .probing] ∨ st = .fault ∧ power = true → steps = [.probe])

/-- The steps of a prepare entry placed for a slot: by its state, and in TESTING by its test return state, where READY
with a last probe gives none (R37, log 15). -/
def Slot.PreparedBy (sl : Slot) (steps : List WorkStep) : Prop :=
  (sl.state ≠ .testing → StepsFor sl.state sl.power steps) ∧
  ∀ st, sl.state = .testing → sl.testReturn = some st →
    StepsFor st sl.power steps ∧ (st = .ready → sl.lastProbe ≠ none → steps = [])

/-! ## How an event ends on the line (R175, R176, R177) -/

/-- The reply to a request of a kind, the request's kind plus 80h, is queued and, on an idle line, the next message
begins. -/
def State.replied (s : State) (kind tag : Byte) (body : List Byte) : State := (s.reply kind tag body).beginMessage

/-- An event notice is queued and, on an idle line, the next message begins. -/
def State.noticed (s : State) (k : NoticeKey) (body : List Byte) : State := (s.notice k body).beginMessage

/-! ## The balance of the credit bank (R137) -/

/-- Units accepted and added equal units paid, in the bank, cleared and lost, modulo 4,294,967,296, and the bank holds at
most 255 units (R137, R132). -/
def CoinUnit.Balanced (c : CoinUnit) : Prop :=
  c.totals.accepted + c.totals.added =
      c.totals.paid + BitVec.ofNat 32 c.bank + c.totals.cleared + c.totals.lost ∧
    c.bank ≤ 255

/-! ## The bounds of the link (R173, R176, R177) -/

/-- The keys of the event notices in a queue. -/
def eventKeys (q : List Message) : List NoticeKey :=
  q.filterMap fun m => match m.cls with | .event k => some k | .group => none

/-- At most 256 bytes in the receive buffer; at most 18 replies and COMPLETION notices in the transmit queue; at most
one event notice of each key; and what is held for a place is no event notice (R173, R176, R177). -/
def Link.Bounded (l : Link) : Prop :=
  l.rx.length ≤ Config.rxSize ∧ l.placesUsed ≤ Config.groupPlaces ∧ (eventKeys l.txq).Nodup ∧
  ∀ m ∈ l.held, m.isGroup = true

/-! ## The output (R66, R70, R78, R80, R88, R101) -/

/-- Whether the output has a source slot: in SHOWING and HOLDING (R66). -/
def Mode.hasSource : Mode → Bool
  | .showing | .holding => true
  | .dark | .changing => false

/-- The laws of the output record: a changeover record is present exactly in CHANGING and a source slot exactly in
SHOWING and HOLDING; the watch's timer runs only in SHOWING, the hold timer, a form and a rejoin only in HOLDING; the sync source
is the target in SETTLE, the held slot in a rejoin's SETTLE, the source slot in SHOWING; video is blanked whenever the
sync source is the bridge (R66, R70, R77, R80, R88, R101). -/
def State.OutputLawful (s : State) : Prop :=
  (s.chg.isSome = decide (s.out.mode = .changing)) ∧
  (s.out.source.isSome = s.out.mode.hasSource) ∧
  (s.out.watch.timer.isSome = true → s.out.mode = .showing) ∧
  (s.out.hold.timer.isSome = true → s.out.mode = .holding) ∧
  (s.out.hold.form.isSome = true → s.out.mode = .holding) ∧
  (s.out.hold.rejoin.isSome = true → s.out.mode = .holding) ∧
  (∀ c i, s.chg = some c → c.stage = .settle → c.toSlot = some i → s.out.sync = .slot i) ∧
  (∀ i, s.out.hold.rejoin = some .settle → s.out.source = some i → s.out.sync = .slot i) ∧
  (∀ i, s.out.mode = .showing → s.out.source = some i → s.out.sync = .slot i) ∧
  (s.out.sync = .bridge → s.out.blanked = true)

/-! ## DARK (R95, R109) -/

/-- The output record in DARK at the end or the failure of a changeover: without a source, the bridge as sync source, with a
new frame at the programmed timing where a slot was, blanked and muted; the class output and the timing stay (R95, R109). -/
def Output.inDark (o : Output) (now : Nat) : Output :=
  { o with
    mode := .dark, source := none, sourceProbe := none, sync := .bridge, blanked := true
    current := if o.sync = .bridge then o.current else o.timing
    frameStart := if o.sync = .bridge then o.frameStart else now
    gain := 63, target := 63, stagedMap := none, stagedLevel := none, watch := { o.watch with timer := none }
    hold := Hold.none }

/-! ## The comparison of a frame with a probe (R77, R101) -/

/-- How many lines lie between two counts, either way. -/
def linesAway (n m : Nat) : Nat := (n - m) + (m - n)

/-- The count a frame of n lines is compared with: count A, or of an interlaced board the nearer of counts A and B (R77,
R101). -/
def nearerCount (interlaced : Bool) (a b n : Nat) : Nat :=
  if interlaced = true ∧ linesAway n b < linesAway n a then b else a

/-! ## The bridge and the class output (R57, R68, R71) -/

/-- A bridge timing within 1,400 to 3,400 ticks and 200 to 1,023 lines (R68). -/
def BridgeTiming.InRange (t : BridgeTiming) : Prop := 1400 ≤ t.ticks ∧ t.ticks ≤ 3400 ∧ 200 ≤ t.lines ∧ t.lines ≤ 1023

/-- A probe record whose line ticks and bridge frame lines are stored clamped (R57). -/
def ProbeRecord.Clamped (p : ProbeRecord) : Prop :=
  ∀ d, p.derived = some d → 1400 ≤ d.lineTicks ∧ d.lineTicks ≤ 3400 ∧ 200 ≤ d.frameLines ∧ d.frameLines ≤ 1023

/-- The probe record a task carries. -/
def Task.probe : Task → Option ProbeRecord
  | .stepEnd _ _ p => p
  | .probeDone _ p => some p
  | .outputProbeDone _ p => some p
  | _ => none

/-- The bridge's two timings stay in range and the class output is never OUT, and every probe record from which the bridge
is programmed is clamped (R57, R68, R71). -/
def State.BridgeLawful (s : State) : Prop :=
  s.out.timing.InRange ∧ s.out.current.InRange ∧ s.out.classOut ≠ .out ∧
  (∀ i p, (s.slot i).lastProbe = some p → p.Clamped) ∧
  (∀ t ∈ s.todo, ∀ p, t.probe = some p → p.Clamped)

/-! ## Work queues (R25) -/

/-- Every slot's queue holds at most 4 controller entries (R25). -/
def State.QueuesBounded (s : State) : Prop := ∀ i, (s.queue i).ctrl.length ≤ 4

/-! ## Settings (R2, R20, R72, R74, R130, R133) -/

/-- A profile within the ranges of R2. -/
def Profile.InRange (p : Profile) : Prop :=
  (500 ≤ p.warmUp ∧ p.warmUp ≤ 20000) ∧ (500 ≤ p.rest ∧ p.rest ≤ 10000) ∧ p.settleFrames ≤ 15 ∧ p.audioLevel ≤ 62 ∧
  (1000 ≤ p.recovery ∧ p.recovery ≤ 10000) ∧ (p.stallLimit = 0 ∨ (60 ≤ p.stallLimit ∧ p.stallLimit ≤ 36000)) ∧
  ∀ c, p.coin = some c →
    (1 ≤ c.units ∧ c.units ≤ 15) ∧ (20 ≤ c.onTime ∧ c.onTime ≤ 250) ∧ (20 ≤ c.offTime ∧ c.offTime ≤ 250)

/-- Output settings within the ranges of R72: at least one class, an ordered window. -/
def OutSettings.InRange (o : OutSettings) : Prop :=
  (o.acceptLow || o.acceptMedium || o.acceptHigh) = true ∧
  4000 ≤ o.windowLow ∧ o.windowLow ≤ o.windowHigh ∧ o.windowHigh ≤ 7500 ∧
  (100 ≤ o.settle ∧ o.settle ≤ 2000) ∧ (5 ≤ o.timeout ∧ o.timeout ≤ 120)

/-- Cabinet coin settings within the ranges of R133. -/
def CoinSettings.InRange (c : CoinSettings) : Prop :=
  (1 ≤ c.valueA ∧ c.valueA ≤ 15) ∧ (1 ≤ c.valueB ∧ c.valueB ≤ 15) ∧
  5 ≤ c.pulseMin ∧ c.pulseMin ≤ c.pulseMax ∧ c.pulseMax ≤ 500 ∧ (1 ≤ c.bankLimit ∧ c.bankLimit ≤ 250) ∧
  (30 ≤ c.meterOn ∧ c.meterOn ≤ 250) ∧ (30 ≤ c.meterOff ∧ c.meterOff ≤ 250)

/-- Every stored setting is within its range, and the audio gain and target within 0 to 63 (R2, R20, R72, R74, R130,
R133). -/
def State.SettingsInRange (s : State) : Prop :=
  (∀ i su, (s.slot i).setup = some su → su.profile.InRange) ∧ s.settings.InRange ∧ s.coin.settings.InRange ∧
  (1 ≤ s.supply.level ∧ s.supply.level ≤ 15) ∧
  (250 ≤ s.controls.holdTime ∧ s.controls.holdTime ≤ 5000) ∧
  (1 ≤ s.controls.chordLines.length ∧ s.controls.chordLines.length ≤ 4 ∧ s.controls.chordLines.Nodup) ∧
  (∀ n, s.out.stagedLevel = some n → n ≤ 62) ∧ s.out.gain ≤ 63 ∧ s.out.target ≤ 63

/-! ## A frame fed to the framer (R172, R174) -/

/-- What the framer makes of a whole run of bytes without gap or loss marks: the request of the good frame that ends
exactly at the last of them, if it is one. -/
def feed (f : Framer) : List Byte → Option Request
  | [] => none
  | b :: rest =>
    match f.step { byte := b, gap := false, loss := false } with
    | .goes g => feed g rest
    | .bad _ => none
    | .good r => if rest = [] then some r else none

end Sys2Proof.Machine
end

