-- ==== Sys2Proof/Certificates/Slice0/Obligations.lean ====
section
/-! DEFINITION. The statements about the part. In each, `u` is the state after the command's time has passed. -/

open Sys2Proof
open Sys2Proof.Machine

/-! ## The queue of commands, and laws that every step keeps -/

/-- A step takes the command at the front of the queue and runs it on the state with the queue's rest; on an empty
queue the part idles (log 1, log 5). -/
def Obligations.StepRunsFrontCommand : Prop :=
  (∀ (s : State) (c : Instr) (rest : List Instr), s.pending = c :: rest → step s = exec c { s with pending := rest }) ∧
  ∀ s : State, s.pending = [] → step s = .next s

/-- Nothing stops the part: every command, in every state, leaves a next state with the same waiting commands and a
clock that has gone on by at least the command's time. That no command stops is the model's choice (log 2). -/
def Obligations.EveryCommandLeavesNextState : Prop :=
  ∀ (c : Instr) (s : State), ∃ t, exec c s = .next t ∧ t.pending = s.pending ∧ s.now + c.dt ≤ t.now

/-- The values after a hard reset meet every law that the steps keep. -/
def Obligations.LawsHoldAtReset : Prop :=
  State.reset.coin.Balanced ∧ State.reset.link.Bounded ∧ State.reset.OutputLawful ∧ State.reset.BridgeLawful ∧
  State.reset.QueuesBounded ∧ State.reset.SettingsInRange

/-- Units accepted and added equal units paid, banked, cleared and lost, modulo 4,294,967,296, after every step (R137),
in every state and not only in those a run reaches. -/
def Obligations.StepKeepsBankBalance : Prop :=
  ∀ s t : State, s.coin.Balanced → step s = .next t → t.coin.Balanced

/-- At most 256 bytes wait in the receive buffer, at most 18 replies and COMPLETION notices in the transmit queue, and at
most one event notice of each key, after every step (R173, R176, R177). -/
def Obligations.StepKeepsLinkBounds : Prop :=
  ∀ s t : State, s.link.Bounded → step s = .next t → t.link.Bounded

/-- The laws of the output record hold after every step: the source slot, the changeover record, the timers and the sync
source agree with the mode, and video is blanked whenever the sync source is the bridge (R66, R70, R77, R80, R88). -/
def Obligations.StepKeepsOutputLaws : Prop :=
  ∀ s t : State, s.OutputLawful → step s = .next t → t.OutputLawful

/-- The bridge's timings stay within 1,400 to 3,400 ticks and 200 to 1,023 lines, the class output is never OUT, and the
probe records the bridge is programmed from stay clamped, after every step (R57, R68, R71). -/
def Obligations.StepKeepsBridgeLaws : Prop :=
  ∀ s t : State, s.BridgeLawful → step s = .next t → t.BridgeLawful

/-- No work queue holds more than 4 controller entries after any step (R25, R34). -/
def Obligations.StepKeepsQueueBounds : Prop :=
  ∀ s t : State, s.QueuesBounded → step s = .next t → t.QueuesBounded

/-- Every stored setting stays within its range, and the audio gain and target within 0 to 63, after every step (R2, R20,
R72, R74, R130, R133). -/
def Obligations.StepKeepsSettingsRanges : Prop :=
  ∀ s t : State, s.SettingsInRange → step s = .next t → t.SettingsInRange

/-! ## Resets (R24, R180, R181) -/

/-- HARD_RESET, in every state: the whole part takes its hard-reset values, with the panel, the coin switches, the lockout
senses and the sync inputs as they stand and every time counted from the reset; a chord found held begins to time, a
switch found closed begins a closure; START-UP with the cause is the first message and begins at once (R23, R41, R64, R72,
R87, R88, R116, R131, R133, R150, R162, R171, R181). RESET_LINE_HELD opens every switch, with every slot in PARK and every
connector released, a slot under test among them, idles the transmit line and holds the part in reset (R124, R181). While it is held, any command but HARD_RESET and another RESET_LINE_HELD changes nothing but the clock
and the levels of the panel, the coin switches, the lockout senses and the sync inputs (R181; that it is so is the model's
reading, log 11, and that HARD_RESET acts also where no RESET_LINE_HELD came before its choice, log 37). -/
def Obligations.HardResetAndResetLine : Prop :=
  (∀ (dt : Nat) (cause : ResetCause) (s : State),
     let now := s.now + dt
     ∃ t : State, exec (.hardReset dt cause) s = .next t ∧ t.now = now ∧ t.pending = s.pending ∧ t.senses = s.senses ∧
       (∀ i, t.slot i =
         { setup := none, state := .unconfigured, power := false, rest := none, restWaiting := false, warm := none
           lastProbe := none, lastFault := none, testReturn := none, probeReturn := none, shedPending := false
           restartUnderWay := false, faultAtEnd := false }) ∧
       (∀ i, t.queue i = { ctrl := [], out := none, running := none, pauseEnd := none }) ∧
       (∀ i, t.tap i =
         { linePulseHigh := false, framePulseHigh := false, lineHigh := (s.tap i).lineHigh
           frameHigh := (s.tap i).frameHigh, lastLine := none, lastFrame := none }) ∧
       (∀ k, t.engine k = none) ∧ t.probeList = [] ∧ t.chg = none ∧ t.classDeadline = now + 24000000 ∧
       t.supply = { permit := none, waitList := [], dip := false, level := 8 } ∧
       t.out =
         { mode := .dark, source := none, sourceProbe := none, sync := .bridge, blanked := true
           timing := { ticks := 3072, lines := 262 }, current := { ticks := 3072, lines := 262 }, frameStart := now
           classOut := .low, gain := 63, target := 63, stagedMap := none, stagedLevel := none
           watch := { lineCount := 0, irregular := 0, timer := none }, hold := Hold.none } ∧
       t.settings =
         { acceptLow := true, acceptMedium := false, acceptHigh := false, windowLow := 4700, windowHigh := 6300
           settle := 500, timeout := 30 } ∧
       (∃ chord chordEnd,
         t.controls =
           { panel := s.controls.panel, capture := false, chordLines := [10, 21], holdTime := 2000, chord := chord
             chordEnd := chordEnd } ∧
         (s.controls.panel.getLsbD 10 = true ∧ s.controls.panel.getLsbD 21 = true →
           chord = .timing ∧ chordEnd = some (now + 96000000)) ∧
         (s.controls.panel.getLsbD 10 = false ∨ s.controls.panel.getLsbD 21 = false → chord = .idle ∧ chordEnd = none)) ∧
       t.coin.settings =
         { valueA := 1, valueB := 1, pulseMin := 20, pulseMax := 200, bankLimit := 40, meterA := some .one
           meterB := some .two, meterOn := 60, meterOff := 60 } ∧
       t.coin.bank = 0 ∧ t.coin.pulse = none ∧
       t.coin.totals =
         { coinsA := 0, coinsB := 0, accepted := 0, added := 0, paid := 0, cleared := 0, lost := 0, jamsA := 0, jamsB := 0
           noiseA := 0, noiseB := 0 } ∧
       (∀ m, (t.coin.meter m).pending = 0 ∧ (t.coin.meter m).phase = .idle) ∧
       (∀ x, t.coin.input x =
         { state := if (s.coin.input x).closed then .timing else .idle, since := now, closed := (s.coin.input x).closed }) ∧
       t.sampler.sampling = false ∧ t.sampler.running = 0xFFFF ∧ t.sampler.prev = none ∧ t.sampler.stall = 0 ∧
       t.tester = { run := none, wait := [], record := none } ∧
       ∃ code : Byte, (cause = .powerOn → code = 0) ∧ (cause = .resetLine → code = 1) ∧
         t.link =
           { rx := [], lossPending := false, lastByteAt := none, framer := .hunt, badFrames := 0, waiting := none, txq := []
             sending := some { cls := .group, kind := 0x40, tag := 0, body := [code] }, held := [], noticeSet := 0x7F
             cause := t.link.cause, restartPending := false, inReset := false } ∧ t.link.cause.code = code) ∧
  (∀ (dt : Nat) (s : State), ∃ t : State, exec (.resetLineHeld dt) s = .next t ∧
    (∀ i, t.slot i = { s.slot i with power := false } ∧ t.driveMode i = .park ∧ t.connector i = 0) ∧
    t = { s with now := s.now + dt, slots := t.slots, link := { s.link with inReset := true, sending := none } }) ∧
  ∀ (c : Instr) (s t : State), s.link.inReset = true → (∀ dt k, c ≠ .hardReset dt k) → (∀ dt, c ≠ .resetLineHeld dt) →
    exec c s = .next t →
      (∀ i, t.tap i = { s.tap i with lineHigh := (t.tap i).lineHigh, frameHigh := (t.tap i).frameHigh }) ∧
      t = { s with
        now := t.now
        taps := t.taps
        controls := { s.controls with panel := t.controls.panel }
        coin := { s.coin with
          inA := { s.coin.inA with closed := t.coin.inA.closed }, inB := { s.coin.inB with closed := t.coin.inB.closed } }
        senses := t.senses }

/-- RESTART_TAKEN with a RESTART's reply on the line, and MESSAGE_SENT there, which is the same event (log 22): powered slots
go to RESTING with their switches open, the rest of a slot's configuration and last fault stay; queues, probes, changeover, permit and tester are
emptied; settings, class output, bank and totals stay; the output is DARK; closed coin switches are in JAM; a meter pulse whose
ON phase has run counts; START-UP with the cause RESTART begins, followed only by COIN notices. With no such reply on the line
RESTART_TAKEN lets only time pass. An unpowered slot in TESTING goes to its test return state, with the fault of an expired
hold where one waits; the pending loss mark is cleared and the time of the last byte kept (the model's readings, log 28 and
log 9) (R24, R41, R64, R87, R116, R131, R151, R162, R171, R180). -/
def Obligations.RestartTakenByEveryBlock : Prop :=
  ∀ (dt : Nat) (s : State), s.link.inReset = false →
    (s.link.restartSent = false → s.todo = [] → exec (.restartTaken dt) s = .next (s.advance dt).beginMessage) ∧
    (s.link.restartSent = true → exec (.messageSent dt) s = exec (.restartTaken dt) s) ∧
    (s.link.restartSent = true →
      let now := s.now + dt
      ∃ t : State, exec (.restartTaken dt) s = .next t ∧ t.now = now ∧ t.pending = s.pending ∧ t.senses = s.senses ∧
        (∀ i,
          let sl := s.slot i
          let kept : Slot :=
            { sl with restWaiting := false, warm := none, lastProbe := none, testReturn := none, probeReturn := none
                      shedPending := false, restartUnderWay := false, faultAtEnd := false }
          (∀ su, sl.setup = some su →
            sl.state ∈ [SlotState.starting, .warm, .probing, .ready, .active] ∨
              (sl.state = .fault ∨ sl.state = .testing) ∧ sl.power = true →
            t.slot i = { kept with state := .resting, power := false, rest := some (now + su.profile.rest * 48000) }) ∧
          (sl.state = .unconfigured → t.slot i = { kept with rest := none }) ∧
          (sl.state = .off ∨ sl.state = .waiting → t.slot i = { kept with state := .off, rest := none }) ∧
          (sl.state = .resting ∨ sl.state = .fault ∧ sl.power = false → t.slot i = kept) ∧
          (∀ st, sl.state = .testing → sl.power = false → sl.testReturn = some st →
            t.slot i = { kept with
              state := st, lastFault := if sl.faultAtEnd = true then some .syncLost else sl.lastFault })) ∧
        (∀ i, t.queue i = { ctrl := [], out := none, running := none, pauseEnd := none }) ∧
        (∀ k, t.engine k = none) ∧ t.probeList = [] ∧ t.chg = none ∧ t.taps = s.taps ∧ t.settings = s.settings ∧
        t.classDeadline = s.classDeadline ∧
        t.supply = { permit := none, waitList := [], dip := false, level := s.supply.level } ∧
        t.out =
          { mode := .dark, source := none, sourceProbe := none, sync := .bridge, blanked := true, timing := s.out.timing
            current := s.out.timing, frameStart := now, classOut := s.out.classOut, gain := 63, target := 63
            stagedMap := none, stagedLevel := none, watch := { lineCount := 0, irregular := 0, timer := none }
            hold := Hold.none } ∧
        (∃ chord chordEnd,
          t.controls = { s.controls with capture := false, chord := chord, chordEnd := chordEnd } ∧
          ((∀ n ∈ s.controls.chordLines, s.controls.panel.getLsbD n.val = true) →
            chord = .timing ∧ chordEnd = some (now + s.controls.holdTime * 48000)) ∧
          ((∃ n ∈ s.controls.chordLines, s.controls.panel.getLsbD n.val = false) → chord = .idle ∧ chordEnd = none)) ∧
        t.coin.settings = s.coin.settings ∧ t.coin.bank = s.coin.bank ∧ t.coin.pulse = none ∧
        t.coin.totals = { s.coin.totals with jamsA := t.coin.totals.jamsA, jamsB := t.coin.totals.jamsB } ∧
        (∀ x, t.coin.input x = { s.coin.input x with state := if (s.coin.input x).closed then .jam else .idle }) ∧
        (∀ m,
          let r := s.coin.meter m
          let left := if r.phase = .off ∨ r.phase = .on ∧ r.ends ≤ now then r.pending - 1 else r.pending
          t.coin.meter m =
            if left = 0 then { r with pending := 0, phase := .idle }
            else { pending := left, phase := .on, ends := now + s.coin.settings.meterOn * 48000
                   offTime := s.coin.settings.meterOff }) ∧
        t.sampler.sampling = false ∧ t.sampler.running = 0xFFFF ∧ t.sampler.prev = none ∧ t.sampler.stall = 0 ∧
        t.tester.run = none ∧ t.tester.wait = [] ∧
        (s.tester.run = none → t.tester.record = s.tester.record) ∧
        (s.tester.run ≠ none →
          t.tester.record = s.tester.record.map fun r => { r with verdict := some .incomplete }) ∧
        t.link =
          { s.link with
            rx := [], lossPending := false, framer := .hunt, waiting := none, txq := t.link.txq
            sending := some { cls := .group, kind := 0x40, tag := 0, body := [2] }, held := [], cause := .restart
            restartPending := false } ∧
        ∀ m ∈ t.link.txq, m.cls = .event .coin)

/-! ## Frames and requests (R172, R183) -/

/-- The body of every well-formed request reads back as that request, with every field at every value. -/
def Obligations.RequestBodyRoundTrip : Prop :=
  ∀ op : ReqOp, op.wf = true → decodeRequest op.kind op.body = op

/-- A frame is start A5h, length, kind, tag, body and check; it is 5 to 67 bytes long, its length byte counts kind, tag
and body, and the bytes after the start sum to 0 modulo 256 (R172). The frame of every request a well-formed command
stands for leaves the framer, byte by byte from HUNT, as exactly that request at its check byte. The bytes on the transmit
line are the frame of the message being sent, and none while the line is idle. -/
def Obligations.CommandFrameRoundTrip : Prop :=
  (∀ (kind tag : Byte) (body : List Byte), body.length ≤ 62 →
     ∃ len check : Byte,
       frameBytes kind tag body = 0xA5 :: len :: kind :: tag :: (body ++ [check]) ∧
       len.toNat = body.length + 2 ∧ 2 ≤ len.toNat ∧ len.toNat ≤ 64 ∧
       5 ≤ (frameBytes kind tag body).length ∧ (frameBytes kind tag body).length ≤ 67 ∧
       byteSum (len :: kind :: tag :: (body ++ [check])) = 0) ∧
  (∀ l : Link, (l.sending = none → l.line = []) ∧
    ∀ m, l.sending = some m → l.line = frameBytes m.kind m.tag m.body) ∧
  ∀ (c : Instr) (r : Request), c.wf = true → c.request = some r → feed .hunt r.frame = some r

/-! ## The link (R173 to R178) -/

/-- The framer on every byte in every state (R174): what it hunts, which lengths it takes, when a frame's bytes are
complete, when a frame is good, and that a gap ends a frame and is hunted. That a loss mark on the start byte marks the frame
it starts is the model's reading (log 10). -/
def Obligations.FramerTakesBytes : Prop :=
  (∀ b : RxByte, Framer.step .hunt b = .goes (if b.byte = 0xA5 then .length b.loss else .hunt)) ∧
  (∀ (f : Framer) (b : RxByte), f ≠ .hunt → b.gap = true →
    f.step b = .bad (if b.byte = 0xA5 then .length b.loss else .hunt)) ∧
  ∀ (b : RxByte) (loss : Bool) (got : List Byte), b.gap = false →
    (2 ≤ b.byte.toNat ∧ b.byte.toNat ≤ 64 →
      Framer.step (.length loss) b = .goes (.frame b.byte.toNat [] (loss || b.loss))) ∧
    (b.byte.toNat < 2 ∨ 64 < b.byte.toNat → Framer.step (.length loss) b = .bad .hunt) ∧
    (∀ len, got.length + 1 < len →
      Framer.step (.frame len got loss) b = .goes (.frame len (got ++ [b.byte]) (loss || b.loss))) ∧
    (∀ len, len = got.length + 1 → Framer.step (.frame len got loss) b = .goes (.check (got ++ [b.byte]) (loss || b.loss))) ∧
    (∀ kind tag body, got = kind :: tag :: body →
      Framer.step (.check got loss) b =
        if byteSum (BitVec.ofNat 8 got.length :: got) + b.byte = 0 ∧ loss = false ∧ b.loss = false then
          .good { tag := tag, op := decodeRequest kind body }
        else .bad .hunt)

/-- RECEIVE_BYTE. While the framer is stopped the byte stands in the buffer with its marks, or is lost when 256 bytes
wait and marks the next one kept. Otherwise, with nothing waiting, the framer takes it at once: it moves on, counts a bad
frame up to 65,535, or hands the request on (R173, R174, R175). That the gap runs from the end of one byte to the end of the
next, and that the first byte has none, is the model's reading (log 9). -/
def Obligations.ReceiveByteReachesFramer : Prop :=
  ∀ (dt : Nat) (b : Byte) (s : State), s.Between →
    let u := s.advance dt
    let l := s.link
    let gap := match l.lastByteAt with | none => false | some t => decide (240000 < u.now - t)
    (l.taking = false → l.rx.length < 256 →
      exec (.receiveByte dt b) s = .next
        (State.beginMessage { u with link := { l with rx := l.rx ++ [{ byte := b, gap := gap, loss := l.lossPending }],
                                                      lossPending := false, lastByteAt := some u.now } })) ∧
    (l.taking = false → 256 ≤ l.rx.length →
      exec (.receiveByte dt b) s = .next
        (State.beginMessage { u with link := { l with lossPending := true, lastByteAt := some u.now } })) ∧
    (l.taking = true → l.rx = [] →
      let taken : Link := { l with lossPending := false, lastByteAt := some u.now }
      exec (.receiveByte dt b) s = .next
        (match l.framer.step { byte := b, gap := gap, loss := l.lossPending } with
         | .goes f => State.beginMessage { u with link := { taken with framer := f } }
         | .bad f => State.beginMessage
             { u with link := { taken with framer := f, badFrames := min 65535 (l.badFrames + 1) } }
         | .good r => (State.offer { u with link := { taken with framer := .hunt } } r).finish))

/-- A request whose frame is complete is taken at once when a reply place is free and no COMPLETION notice is held for it,
and waits otherwise (R175, R176). MESSAGE_SENT, not after the reply of a RESTART: the line is idle and the head of the
transmit queue begins, leaving the queue. The place of a reply or COMPLETION notice goes to the oldest held COMPLETION
notice, and with none held to the waiting request, which is then taken (R176). HELD_COMPLETION_QUEUED: the oldest held
COMPLETION notice joins the transmit queue when a place is free; with none free, or none held, nothing moves (R33,
R176; that the row is a command of its own is the model's choice, log 8 and log 2). While a RESTART's reply waits to be
sent, held COMPLETION notices stay where they are under both commands (R180; that this goes before R176 is the model's
reading, log 38). -/
def Obligations.PlacesPassToHeldThenWaiting : Prop :=
  (∀ (s : State) (r : Request),
     (s.link.held = [] → s.link.placesUsed < 18 → s.offer r = (s.takeRequest r).cascade) ∧
     (s.link.held ≠ [] ∨ 18 ≤ s.link.placesUsed → s.offer r = { s with link := { s.link with waiting := some r } })) ∧
  (∀ (dt : Nat) (s : State), s.Between → s.link.restartSent = false →
     let u := s.advance dt
     let l := s.link
     (l.txq = [] → exec (.messageSent dt) s = .next { u with link := { l with sending := none } }) ∧
     ∀ m rest, l.txq = m :: rest →
       let begun : Link := { l with sending := some m, txq := rest }
       (m.cls ≠ .group → exec (.messageSent dt) s = .next { u with link := begun }) ∧
       (m.cls = .group → l.restartPending = true → l.held ≠ [] →
         exec (.messageSent dt) s = .next { u with link := begun }) ∧
       (m.cls = .group → l.restartPending = false → ∀ h hs, l.held = h :: hs →
         exec (.messageSent dt) s = .next { u with link := { begun with txq := rest ++ [h], held := hs } }) ∧
       (m.cls = .group → l.held = [] → l.waiting = none →
         exec (.messageSent dt) s = .next { u with link := begun }) ∧
       (m.cls = .group → l.held = [] → ∀ r, l.waiting = some r →
         exec (.messageSent dt) s = .next
           (State.drainAll (State.cascade (State.takeRequest { u with link := { begun with waiting := none } } r))))) ∧
  ∀ (dt : Nat) (s : State), s.Between →
    let u := s.advance dt
    let l := s.link
    (∀ m rest, l.restartPending = false → l.held = m :: rest → l.placesUsed < 18 →
      exec (.heldCompletionQueued dt) s = .next
        (State.beginMessage { u with link := { l with txq := l.txq ++ [m], held := rest } })) ∧
    (l.restartPending = true ∨ l.held = [] ∨ 18 ≤ l.placesUsed → exec (.heldCompletionQueued dt) s = .next u.beginMessage)

/-- How messages join the transmit queue: an event notice outside the notice set changes nothing; one whose key has no
notice waiting joins the tail; one whose key has a notice waiting takes that notice's place; a COMPLETION notice takes a
free place at once, or is held behind those already held (R176, R177, R178). -/
def Obligations.MessagesJoinQueue : Prop :=
  (∀ (s : State) (k : NoticeKey) (body : List Byte), s.link.noticeSet.getLsbD k.place = false → s.notice k body = s) ∧
  (∀ (s : State) (k : NoticeKey) (body : List Byte), s.link.noticeSet.getLsbD k.place = true →
    let m : Message := { cls := .event k, kind := BitVec.ofNat 8 (0x42 + k.place), tag := 0, body := body }
    (s.notice k body = { s with link := { s.link with txq := (s.notice k body).link.txq } }) ∧
    ((∀ x ∈ s.link.txq, x.cls ≠ .event k) → (s.notice k body).link.txq = s.link.txq ++ [m]) ∧
    ((∃ x ∈ s.link.txq, x.cls = .event k) →
      (s.notice k body).link.txq.length = s.link.txq.length ∧
      ∀ (n : Nat) (x : Message), s.link.txq[n]? = some x →
        (s.notice k body).link.txq[n]? = some (if x.cls = .event k then m else x))) ∧
  ∀ (s : State) (tag : Byte) (body : List Byte),
    let m : Message := { cls := .group, kind := 0x41, tag := tag, body := body }
    (s.link.held = [] → s.link.placesUsed < 18 →
      s.complete tag body = { s with link := { s.link with txq := s.link.txq ++ [m] } }) ∧
    (s.link.held ≠ [] ∨ 18 ≤ s.link.placesUsed →
      s.complete tag body = { s with link := { s.link with held := s.link.held ++ [m] } })

/-! ## Requests of the link, and the queries (R22, R115, R149, R170, R175, R178, R179, R180) -/

/-- A frame of a kind that names no request is refused UNKNOWN_KIND, and a request kind with a body of another length
BAD_LENGTH; the reply's kind is that kind plus 80h and nothing else changes (R175). NOTIFY replaces the notice set and
removes the waiting event notices it leaves out; a set with bit 7 is refused BAD_VALUE and changes nothing (R178).
RESTART is answered DONE and stops the intake of bytes (R180). -/
def Obligations.LinkRequestsAnswered : Prop :=
  (∀ (dt : Nat) (kind tag : Byte) (body : List Byte) (s : State), s.TakesRequests →
     (kind = 0 ∨ 0x14 < kind.toNat →
       exec (.unknownKind dt kind tag body) s = .next ((s.received dt).replied kind tag [2, 1])) ∧
     (1 ≤ kind.toNat ∧ kind.toNat ≤ 0x14 → body.length ≠ bodyLength kind →
       exec (.unknownKind dt kind tag body) s = .next ((s.received dt).replied kind tag [2, 2]))) ∧
  ∀ (dt : Nat) (tag set : Byte) (s : State), s.TakesRequests →
    let u := s.received dt
    let done (kind : Byte) (body : List Byte) : Message := { cls := .group, kind := kind, tag := tag, body := 0 :: body }
    (set.toNat < 128 →
      exec (.notify dt tag set) s = .next
        (State.beginMessage
          { u with link := { u.link with
              noticeSet := set.setWidth 7
              txq := (s.link.txq.filter fun m =>
                match m.cls with
                | .group => true
                | .event k => set.getLsbD k.place) ++ [done 0x82 [set]] } })) ∧
    (128 ≤ set.toNat → exec (.notify dt tag set) s = .next (u.replied 0x02 tag [2, 4])) ∧
    exec (.restart dt tag) s = .next
      (State.beginMessage
        { u with link := { u.link with restartPending := true, txq := s.link.txq ++ [done 0x83 []] } })

/-- STATUS, QUERY-SLOT, QUERY-OUTPUT, QUERY-COIN and QUERY-TEST are answered DONE with what the part holds at that moment
and change nothing else; a slot above 7 is refused BAD_SLOT, a part above 2 BAD_VALUE. -/
def Obligations.QueriesAnswerAndChangeNothing : Prop :=
  ∀ (dt : Nat) (tag : Byte) (s : State), s.TakesRequests →
    let u := s.received dt
    (exec (.status dt tag) s = .next (u.replied 0x01 tag
      ([0, (s.slot 0).state.code, (s.slot 1).state.code, (s.slot 2).state.code, (s.slot 3).state.code,
        (s.slot 4).state.code, (s.slot 5).state.code, (s.slot 6).state.code, (s.slot 7).state.code, s.out.mode.code,
        slotCode s.supply.permit, flagByte [s.supply.dip, s.controls.capture], byteOf s.coin.bank] ++
        natBytes 2 s.link.badFrames ++ [s.link.cause.code]))) ∧
    (exec (.queryOutput dt tag) s = .next (u.replied 0x11 tag (0 :: u.outputBody))) ∧
    (exec (.queryCoin dt tag) s = .next (u.replied 0x12 tag (0 :: u.coinBody))) ∧
    (∀ slot : Byte, 7 < slot.toNat → exec (.querySlot dt tag slot) s = .next (u.replied 0x10 tag [2, 3])) ∧
    (∀ (slot : Byte) (i : SlotNo), i.val = slot.toNat →
      exec (.querySlot dt tag slot) s = .next (u.replied 0x10 tag (0 :: u.slotBody i))) ∧
    (∀ part : Byte, 2 < part.toNat → exec (.queryTest dt tag part) s = .next (u.replied 0x13 tag [2, 4])) ∧
    ∀ part : Byte, part.toNat ≤ 2 →
      exec (.queryTest dt tag part) s = .next (u.replied 0x13 tag (0 :: s.tester.body part))

/-- In every state the replies and notices have the lengths of their tables, and the wide fields stand at their places:
the profile and map of a configured slot and its last probe in QUERY-SLOT, the bridge timing, settings and staged map in
QUERY-OUTPUT, the bank and totals in QUERY-COIN, and in QUERY-TEST parts 1 and 2 the cannot-assert and held-asserted counts
of each of their twelve lines, or zeros without a record (R182, R184; that these parts carry no slot, seed or patterns done
is the table's, log 35). -/
def Obligations.ReplyLayouts : Prop :=
  (∀ (s : State) (i : SlotNo),
    (s.slotBody i).length = 61 ∧ (s.slotBody i).drop 44 = probeBlock (s.slot i).lastProbe ∧
    (∀ su, (s.slot i).setup = some su →
      ((s.slotBody i).drop 9).take 20 = su.profile.block ∧ ((s.slotBody i).drop 29).take 15 = mapBlock su.map)) ∧
  (∀ s : State, s.outputBody.length = 58 ∧
    (s.outputBody.drop 4).take 4 = natBytes 2 s.out.timing.ticks ++ natBytes 2 s.out.timing.lines ∧
    (s.outputBody.drop 17).take 8 = s.settings.block ∧
    ∀ m, s.out.stagedMap = some m → s.outputBody.drop 43 = mapBlock m) ∧
  (∀ s : State, s.coinBody.length = 61 ∧ s.coinBody.head? = some (byteOf s.coin.bank) ∧
    s.coinBody.drop 17 = s.coin.totals.block) ∧
  (∀ t : Tester, (t.body 0).length = 25 ∧ (t.body 1).length = 50 ∧ (t.body 2).length = 50 ∧
    (t.record = none → t.body 1 = 1 :: List.replicate 49 0 ∧ t.body 2 = 2 :: List.replicate 49 0) ∧
    ∀ r, t.record = some r → (t.body 1).take 2 = [1, 1] ∧ (t.body 2).take 2 = [2, 1] ∧
      ∀ n : Fin 12,
        ((t.body 1).drop (2 + 4 * n.val)).take 4 = natBytes 2 r.cannotAssert[n.val] ++ natBytes 2 r.heldAsserted[n.val] ∧
        ((t.body 2).drop (2 + 4 * n.val)).take 4 =
          natBytes 2 r.cannotAssert[12 + n.val] ++ natBytes 2 r.heldAsserted[12 + n.val]) ∧
  (∀ s : State, s.statusBody.length = 15) ∧
  (∀ (i : SlotNo) (n : Nat) (r : Result) (p : Option ProbeRecord), (workCompletion i n r p).length = 21) ∧
  (∀ (sel : Option SlotNo) (a b : Result), (selectCompletion sel a b).length = 4) ∧
  ∀ (s : State) (i : SlotNo) (o : OutCause) (c : CoinCause) (x : Half) (n : Nat) (p : StallPolicy),
    (s.slotNoticeBody i).length = 4 ∧ (s.out.noticeBody o).length = 6 ∧ (s.coinNoticeBody c).length = 5 ∧
    s.panelNoticeBody.length = 5 ∧ s.menuNoticeBody.length = 9 ∧ (stallNoticeBody i x n p).length = 6 ∧
    s.supply.noticeBody.length = 2

/-! ## Settings (R2 to R5, R72, R75, R121, R122, R130, R133) -/

/-- SET-OUTPUT stores all four settings clamped and answers with them as stored; no class, a class bit above bit 2, or a
clamped low above the clamped high is refused BAD_VALUE and stores nothing (R72). SET-CABINET stores the coin settings
and the dip threshold level clamped and answers with them as stored. A closure that has already lasted the new maximum
goes to JAM; no other input, and neither the bank nor any other block, changes. A meter code above 2, or a clamped
minimum above the clamped maximum, is refused BAD_VALUE and stores nothing (R133). -/
def Obligations.OutputAndCabinetSettingsStored : Prop :=
  (∀ (dt : Nat) (tag : Byte) (r : RawOutput) (s : State), s.TakesRequests →
     let u := s.received dt
     let low := max 4000 (min 7500 r.windowLow.toNat)
     let high := max 4000 (min 7500 r.windowHigh.toNat)
     let stored : OutSettings :=
       { acceptLow := r.classes.getLsbD 0, acceptMedium := r.classes.getLsbD 1, acceptHigh := r.classes.getLsbD 2
         windowLow := low, windowHigh := high, settle := max 100 (min 2000 r.settle.toNat)
         timeout := max 5 (min 120 r.timeout.toNat) }
     (r.classes ≠ 0 → r.classes.toNat < 8 → low ≤ high →
       exec (.setOutput dt tag r) s = .next (State.replied { u with settings := stored } 0x04 tag (0 :: stored.block))) ∧
     (r.classes = 0 ∨ 8 ≤ r.classes.toNat ∨ high < low →
       exec (.setOutput dt tag r) s = .next (u.replied 0x04 tag [2, 4]))) ∧
  ∀ (dt : Nat) (tag : Byte) (r : RawCabinet) (s : State), s.TakesRequests →
    let u := s.received dt
    let lo := max 5 (min 500 r.pulseMin.toNat)
    let hi := max 5 (min 500 r.pulseMax.toNat)
    (∀ mA mB, meterOf r.meterA = some mA → meterOf r.meterB = some mB → lo ≤ hi →
      let stored : CoinSettings :=
        { valueA := max 1 (min 15 r.valueA.toNat), valueB := max 1 (min 15 r.valueB.toNat), pulseMin := lo
          pulseMax := hi, bankLimit := max 1 (min 250 r.bankLimit.toNat), meterA := mA, meterB := mB
          meterOn := max 30 (min 250 r.meterOn.toNat), meterOff := max 30 (min 250 r.meterOff.toNat) }
      let level := max 1 (min 15 r.dipLevel.toNat)
      let kept := { u with coin := { s.coin with settings := stored }, supply := { s.supply with level := level } }
      let overdue (x : CoinInput) : Prop := (s.coin.input x).state = .timing ∧ hi * 48000 ≤ u.now - (s.coin.input x).since
      ((∀ x, ¬ overdue x) →
        exec (.setCabinet dt tag r) s = .next (kept.replied 0x05 tag (0 :: cabinetBlock stored level))) ∧
      ∃ t, exec (.setCabinet dt tag r) s = .next t ∧
        t = { kept with coin := { t.coin with settings := stored, bank := s.coin.bank, pulse := s.coin.pulse }, link := t.link } ∧
        ∀ x, (overdue x → (t.coin.input x).state = .jam) ∧
          (¬ overdue x → (t.coin.input x).state = (s.coin.input x).state)) ∧
    (2 < r.meterA.toNat ∨ 2 < r.meterB.toNat ∨ hi < lo →
      exec (.setCabinet dt tag r) s = .next (u.replied 0x05 tag [2, 4]))

/-- The profile SET-SLOT stores: each number clamped into its range, a stall limit of 0 kept and 1 to 59 raised to 60, a
coin profile exactly for a coin drive of 1 or 2; and none exactly when an enumerated field names no listed value (R2). -/
def Obligations.ProfileStoredClamped : Prop :=
  ∀ r : RawProfile,
    (storeProfile r = none ↔
      1 < r.powerPolicy.toNat ∨ 1 < r.stallPolicy.toNat ∨ 1 < r.polarity.toNat ∨ 2 < r.coinDrive.toNat) ∧
    ∀ p, storeProfile r = some p →
      p.warmUp = max 500 (min 20000 r.warmUp.toNat) ∧ p.rest = max 500 (min 10000 r.rest.toNat) ∧
      p.settleFrames = min 15 r.settleFrames.toNat ∧ p.audioLevel = min 62 r.audioLevel.toNat ∧
      p.recovery = max 1000 (min 10000 r.recovery.toNat) ∧
      p.stallLimit = (if r.stallLimit = 0 then 0 else max 60 (min 36000 r.stallLimit.toNat)) ∧
      p.policy = (if r.powerPolicy = 0 then .keep else .shed) ∧
      p.stallPolicy = (if r.stallPolicy = 0 then .notify else .restart) ∧
      p.polarity = (if r.polarity = 0 then .lowAssert else .highAssert) ∧ p.park = r.park ∧
      p.coin = (if r.coinDrive = 0 then none else some
        { drive := if r.coinDrive = 1 then .c1 else .c2, units := max 1 (min 15 r.units.toNat)
          onTime := max 20 (min 250 r.onTime.toNat), offTime := max 20 (min 250 r.offTime.toNat) })

/-- SET-SLOT: the checks in their order, then a slot in UNCONFIGURED becomes OFF with the profile, the identity map and no
last probe or fault, with a SLOT notice, and a configured one has its whole profile replaced and nothing else (R3,
R4). SET-SLOT with its disable flag: refused BAD_SLOT or IN_USE as R3 says, and NOT_ALLOWED in every state but OFF; in
OFF the slot becomes UNCONFIGURED and its profile, map, last probe, last fault and flags go (R5). The reply's body is
the request's with zeros for the profile, the model's choice of log 20, and the reply stands before the SLOT notice, that of
log 27. -/
def Obligations.SetSlotConfiguresAndDisables : Prop :=
  (∀ (dt : Nat) (tag slot : Byte) (r : RawProfile) (s : State), s.TakesRequests →
     let u := s.received dt
     (7 < slot.toNat → exec (.setSlot dt tag slot r) s = .next (u.replied 0x06 tag [2, 3])) ∧
     ∀ i : SlotNo, i.val = slot.toNat →
       (storeProfile r = none → exec (.setSlot dt tag slot r) s = .next (u.replied 0x06 tag [2, 4])) ∧
       ∀ p, storeProfile r = some p →
         (s.InUse i → exec (.setSlot dt tag slot r) s = .next (u.replied 0x06 tag [2, 7])) ∧
         (¬ s.InUse i → (s.slot i).setup = none → (s.slot i).state = .unconfigured →
           exec (.setSlot dt tag slot r) s = .next
             (((u.reply 0x06 tag (0 :: byteOf i.val :: 0 :: p.block)).modSlot i fun sl =>
               { sl with setup := some { profile := p, map := identityMap }, state := .off, lastProbe := none
                         lastFault := none }).noticed (.slot i) [byteOf i.val, 1, byteOf (bit (s.slot i).power), 0])) ∧
         (¬ s.InUse i → ∀ su, (s.slot i).setup = some su →
           exec (.setSlot dt tag slot r) s = .next
             ((u.modSlot i fun sl => { sl with setup := some { su with profile := p } }).replied 0x06 tag
               (0 :: byteOf i.val :: 0 :: p.block)))) ∧
  ∀ (dt : Nat) (tag slot : Byte) (s : State), s.TakesRequests →
    let u := s.received dt
    (7 < slot.toNat → exec (.setSlotDisable dt tag slot) s = .next (u.replied 0x06 tag [2, 3])) ∧
    ∀ i : SlotNo, i.val = slot.toNat →
      (s.InUse i → exec (.setSlotDisable dt tag slot) s = .next (u.replied 0x06 tag [2, 7])) ∧
      (¬ s.InUse i → (s.slot i).state ≠ .off →
        exec (.setSlotDisable dt tag slot) s = .next (u.replied 0x06 tag [2, 8])) ∧
      (¬ s.InUse i → (s.slot i).state = .off →
        exec (.setSlotDisable dt tag slot) s = .next
          (((u.reply 0x06 tag (0 :: byteOf i.val :: 1 :: List.replicate 20 0)).modSlot i fun sl =>
            { sl with setup := none, state := .unconfigured, lastProbe := none, lastFault := none
                      shedPending := false, restartUnderWay := false }).noticed (.slot i)
            [byteOf i.val, 0, byteOf (bit (s.slot i).power), 0]))

/-- SET-TRIM and SET-MAP: refused for a slot above 7, for an UNCONFIGURED slot, and a map with an entry that names no
source; staged for the source slot and otherwise stored in the slot at once, with the reply saying which (R75, R122). -/
def Obligations.TrimAndMapStoredOrStaged : Prop :=
  ∀ (dt : Nat) (tag slot level : Byte) (v : Vector Byte 24) (s : State), s.TakesRequests →
    let u := s.received dt
    (7 < slot.toNat →
      exec (.setTrim dt tag slot level) s = .next (u.replied 0x08 tag [2, 3]) ∧
      exec (.setMap dt tag slot v) s = .next (u.replied 0x07 tag [2, 3])) ∧
    ∀ i : SlotNo, i.val = slot.toNat →
      ((s.slot i).setup = none →
        exec (.setTrim dt tag slot level) s = .next (u.replied 0x08 tag [2, 5]) ∧
        exec (.setMap dt tag slot v) s = .next (u.replied 0x07 tag [2, 5])) ∧
      ∀ su, (s.slot i).setup = some su →
        let n := min 62 level.toNat
        let fields (m : InputMap) : List Byte := byteOf i.val :: m.toList.map fun e => byteOf e.code
        (s.out.source = some i →
          exec (.setTrim dt tag slot level) s = .next
            (State.replied { u with out := { s.out with stagedLevel := some n } } 0x08 tag [0, byteOf i.val, byteOf n, 1])) ∧
        (s.out.source ≠ some i →
          exec (.setTrim dt tag slot level) s = .next
            ((u.modSlot i fun sl => { sl with setup := some { su with profile := { su.profile with audioLevel := n } } }).replied
              0x08 tag [0, byteOf i.val, byteOf n, 0])) ∧
        ((∃ n : Fin 24, 25 < v[n].toNat) → exec (.setMap dt tag slot v) s = .next (u.replied 0x07 tag [2, 4])) ∧
        (∀ m : InputMap, (∀ n : Fin 24, m[n].code = v[n].toNat) →
          (s.out.source = some i →
            exec (.setMap dt tag slot v) s = .next
              (State.replied { u with out := { s.out with stagedMap := some m } } 0x07 tag (0 :: 1 :: fields m))) ∧
          (s.out.source ≠ some i →
            exec (.setMap dt tag slot v) s = .next
              ((u.modSlot i fun sl => { sl with setup := some { su with map := m } }).replied 0x07 tag
                (0 :: 0 :: fields m))))

/-- The chord SET-CHORD stores: none exactly for a count of 0 or above 4 or a line above 23 within the count; otherwise
the lines named within the count, each once, and the hold time clamped (R130, R183). SET-CHORD replaces the chord
lines and the hold time, clears a latch, and times the new chord from this moment exactly when every line of it is
asserted; a bad list is refused BAD_VALUE and changes nothing (R130). -/
def Obligations.SetChordStartsAfresh : Prop :=
  (∀ r : RawChord,
     let named := [r.line0, r.line1, r.line2, r.line3].take r.count.toNat
     (storeChord r = none ↔ r.count = 0 ∨ 4 < r.count.toNat ∨ ∃ b ∈ named, 23 < b.toNat) ∧
     ∀ lines time, storeChord r = some (lines, time) →
       time = max 250 (min 5000 r.hold.toNat) ∧ lines.Nodup ∧ 1 ≤ lines.length ∧ lines.length ≤ 4 ∧
       ∀ n : LineNo, n ∈ lines ↔ ∃ b ∈ named, b.toNat = n.val) ∧
  ∀ (dt : Nat) (tag : Byte) (r : RawChord) (s : State), s.TakesRequests →
    let u := s.received dt
    (storeChord r = none → exec (.setChord dt tag r) s = .next (u.replied 0x09 tag [2, 4])) ∧
    ∀ lines time, storeChord r = some (lines, time) →
      let kept : Controls := { s.controls with chordLines := lines, holdTime := time }
      ((∀ n ∈ lines, s.controls.panel.getLsbD n.val = true) →
        exec (.setChord dt tag r) s = .next
          (State.replied { u with controls := { kept with chord := .timing, chordEnd := some (u.now + time * 48000) } } 0x09 tag
            (0 :: kept.chordBlock))) ∧
      ((∃ n ∈ lines, s.controls.panel.getLsbD n.val = false) →
        exec (.setChord dt tag r) s = .next
          (State.replied { u with controls := { kept with chord := .idle, chordEnd := none } } 0x09 tag (0 :: kept.chordBlock)))

/-- CAPTURE sets the capture flag and answers with the flag and the panel: ALREADY when it stands so, BAD_VALUE for a
setting above 1. Capture on changes nothing else; capture off is followed by the payout test (R125, R126, R142). That the
reply stands before that test's COIN notice is the model's reading (log 27). -/
def Obligations.CaptureSetsFlag : Prop :=
  ∀ (dt : Nat) (tag setting : Byte) (s : State), s.TakesRequests →
    let u := s.received dt
    let panel := lineBytes s.controls.panel
    (1 < setting.toNat → exec (.capture dt tag setting) s = .next (u.replied 0x0E tag [2, 4])) ∧
    (s.controls.capture = true →
      exec (.capture dt tag 1) s = .next (u.replied 0x0E tag (3 :: 1 :: panel)) ∧
      exec (.capture dt tag 0) s = .next
        (State.beginMessage (State.payoutTest
          (State.reply { u with controls := { s.controls with capture := false } } 0x0E tag (0 :: 0 :: panel))))) ∧
    (s.controls.capture = false →
      exec (.capture dt tag 0) s = .next (u.replied 0x0E tag (3 :: 0 :: panel)) ∧
      exec (.capture dt tag 1) s = .next
        (State.replied { u with controls := { s.controls with capture := true } } 0x0E tag (0 :: 1 :: panel)))

/-! ## Board power (R7 to R14, R20, R21) -/

/-- The grant test: with the permit free, the mark clear and a slot waiting, the changeover target wins if it waits and
otherwise the slot that has waited longest; the winner leaves the list, holds the permit, and becomes STARTING with its
switch closed and its warm-up timer running. Otherwise nothing changes (R8, R9). -/
def Obligations.GrantGoesToWinner : Prop :=
  ∀ s : State,
    (s.supply.permit ≠ none ∨ s.supply.dip = true ∨ s.supply.waitList = [] → s.grantTest = s) ∧
    (s.supply.permit = none → s.supply.dip = false → ∀ (i : SlotNo) (su : Setup), (s.slot i).setup = some su →
      (s.target = some i ∧ i ∈ s.supply.waitList ∨
        s.supply.waitList.head? = some i ∧ (∀ j, s.target = some j → j ∉ s.supply.waitList)) →
      s.grantTest =
        (State.modSlot { s with supply := { s.supply with permit := some i, waitList := s.supply.waitList.erase i } } i
          fun sl => { sl with power := true, warm := some (s.now + su.profile.warmUp * 48000) }).setState i .starting)

/-- CLEAR-DIP clears a set mark with a SUPPLY notice and a DONE reply, and the grant test follows at once; with the mark
clear it is answered ALREADY (R21). SUPPLY_DIP sets a clear mark with a SUPPLY notice and leaves a set one (R20). -/
def Obligations.SupplyDipMarkSetAndCleared : Prop :=
  ∀ (dt : Nat) (tag : Byte) (s : State),
    let u := s.advance dt
    let taken := s.received dt
    (s.TakesRequests → s.supply.dip = true →
      exec (.clearDip dt tag) s = .next
        ((State.notice { taken with supply := { s.supply with dip := false } } .supply [0, byteOf s.supply.level]).reply 0x14 tag
          [0]).grantTest.beginMessage) ∧
    (s.TakesRequests → s.supply.dip = false → exec (.clearDip dt tag) s = .next (taken.replied 0x14 tag [3])) ∧
    (s.Between → s.supply.dip = false →
      exec (.supplyDip dt) s = .next
        (State.noticed { u with supply := { s.supply with dip := true } } .supply [1, byteOf s.supply.level])) ∧
    (s.Between → s.supply.dip = true → exec (.supplyDip dt) s = .next u.beginMessage)

/-- What a POWER_ON step asks of the slot, by its state: it joins the wait list, waits on the rest timer, joins the wait
or warm-up under way, or ends OK at once (R7). What a POWER_OFF step does, by the slot's state: an opening of the
switch clears last probe and shed-pending, stops the warm-up, starts the rest timer with the profile's rest time,
leaves the slot RESTING and gives back a permit it held; a WAITING slot leaves the wait list and becomes OFF; an
unpowered one stays as it is (R13). -/
def Obligations.PowerStepsByState : Prop :=
  (∀ (s : State) (i : SlotNo),
     let sl := s.slot i
     (sl.state = .off ∨ sl.state = .fault ∧ sl.power = false ∧ sl.rest = none → i ∉ s.supply.waitList →
       s.powerOn i =
         (State.setState { s with supply := { s.supply with waitList := s.supply.waitList ++ [i] } } i .waiting).push
           [.grant]) ∧
     (sl.state = .resting ∨ sl.state = .fault ∧ sl.power = false ∧ sl.rest ≠ none →
       s.powerOn i = s.modSlot i fun sl => { sl with restWaiting := true }) ∧
     (sl.state = .waiting ∨ sl.state = .starting → s.powerOn i = s) ∧
     (sl.state = .warm ∨ sl.state = .ready ∨ sl.state = .active ∨ sl.state = .fault ∧ sl.power = true →
       s.powerOn i = s.push [.stepEnd i .ok none])) ∧
  ∀ (s : State) (i : SlotNo),
    let sl := s.slot i
    (∀ su, sl.setup = some su →
      sl.state = .starting ∨ sl.state = .warm ∨ sl.state = .ready ∨ sl.state = .active ∨
        sl.state = .fault ∧ sl.power = true →
      let t := s.powerOff i
      t.slot i = { sl with power := false, state := .resting, lastProbe := none, shedPending := false, warm := none
                           restWaiting := false, faultAtEnd := false, rest := some (s.now + su.profile.rest * 48000) } ∧
      t.supply = { s.supply with permit := if s.supply.permit = some i then none else s.supply.permit } ∧
      (∀ j, j ≠ i → t.slot j = s.slot j) ∧ t.queues = s.queues ∧ t.coin = s.coin ∧ t.chg = s.chg ∧
      (s.chg = none → t.out = s.out)) ∧
    (sl.state = .waiting →
      s.powerOff i =
        State.setState { s with supply := { s.supply with waitList := s.supply.waitList.erase i } } i .off) ∧
    (sl.state = .off ∨ sl.state = .resting ∨ sl.state = .fault ∧ sl.power = false → s.powerOff i = s)

/-- REST_TIMER_END: the timer stops; RESTING without a power-on waiting becomes OFF, with one waiting the slot becomes
WAITING at the tail of the wait list and the grant test is made, so does an unpowered FAULT with one waiting, and
without one it stays in FAULT; without a running timer only time passes (R14, log 2). WARM_UP_END: the slot becomes
WARM, its permit is given back and goes to the winner of the grant test. With no work in the slot's queue that is all;
when the running controller entry's last step is the POWER_ON that waited for it, that entry ends OK with its
COMPLETION notice (R10, R32). No shed is pending on the slot there and no hold has expired over it. Without a running
timer only time passes (log 2). The shed test: a slot with a shed pending, nothing in its queue, in WARM, READY or FAULT
with power ON, and not the changeover target, is powered off as by a POWER_OFF step, its flag cleared; any other slot is
left as it is. A warm-up that ends with a shed pending and an empty queue is followed by it at once (R19). -/
def Obligations.RestAndWarmUpEnd : Prop :=
  (∀ (dt : Nat) (i : SlotNo) (s : State), s.Between →
     let u := s.advance dt
     let sl := s.slot i
     (sl.rest = none → exec (.restTimerEnd dt i) s = .next u.beginMessage) ∧
     ∀ tick, sl.rest = some tick →
       let stopped : State := (u.reach tick).modSlot i fun sl => { sl with rest := none, restWaiting := false }
       (sl.state = .resting → sl.restWaiting = false →
         exec (.restTimerEnd dt i) s = .next (stopped.setState i .off).beginMessage) ∧
       (sl.state = .resting ∨ sl.state = .fault ∧ sl.power = false → sl.restWaiting = true → i ∉ s.supply.waitList →
         exec (.restTimerEnd dt i) s = .next
           (State.setState { stopped with supply := { s.supply with waitList := s.supply.waitList ++ [i] } } i
             .waiting).grantTest.beginMessage) ∧
       (sl.state = .fault → sl.restWaiting = false →
         exec (.restTimerEnd dt i) s = .next stopped.beginMessage)) ∧
  (∀ (dt : Nat) (i : SlotNo) (s : State), s.Between →
    let u := s.advance dt
    let sl := s.slot i
    let q := s.queue i
    (sl.warm = none → exec (.warmUpEnd dt i) s = .next u.beginMessage) ∧
    ∀ tick, sl.warm = some tick → sl.shedPending = false → sl.faultAtEnd = false →
      let warmed : State := ((u.reach tick).modSlot i fun sl => { sl with warm := none }).setState i .warm
      let freed : State :=
        if s.supply.permit = some i then State.grantTest { warmed with supply := { s.supply with permit := none } }
        else warmed
      (q.ctrl = [] → q.out = none → q.running = none →
        exec (.warmUpEnd dt i) s = .next freed.beginMessage) ∧
      (∀ e tag, q.ctrl = [e] → q.out = none → q.running = some .controller → e.kind = .controller tag →
        e.step = some .powerOn → e.done + 1 = e.steps.length → s.supply.waitList = [] →
        exec (.warmUpEnd dt i) s = .next
          ((freed.modQueue i fun _ => { ctrl := [], out := none, running := none, pauseEnd := none }).complete tag
            (workCompletion i (e.done + 1) .ok none)).beginMessage)) ∧
  (∀ (s : State) (i : SlotNo) (su : Setup), (s.slot i).setup = some su →
    let sl := s.slot i
    let sheds := sl.shedPending = true ∧ (s.queue i).ctrl = [] ∧ (s.queue i).out = none ∧ s.target ≠ some i ∧
      (sl.state = .warm ∨ sl.state = .ready ∨ sl.state = .fault ∧ sl.power = true)
    let t := s.shedTest i
    (¬ sheds → t = s) ∧
    (sheds →
      t.slot i = { sl with power := false, state := .resting, lastProbe := none, shedPending := false, warm := none
                           restWaiting := false, faultAtEnd := false, rest := some (s.now + su.profile.rest * 48000) } ∧
      (∀ j, j ≠ i → t.slot j = s.slot j) ∧ t.queues = s.queues ∧ t.coin = s.coin ∧ t.chg = s.chg ∧
      (s.chg = none → t.out = s.out))) ∧
  ∀ (dt : Nat) (i : SlotNo) (su : Setup) (tick : Nat) (s : State), s.Between → (s.slot i).setup = some su →
    (s.slot i).warm = some tick → (s.slot i).shedPending = true → (s.slot i).faultAtEnd = false →
    s.queue i = { ctrl := [], out := none, running := none, pauseEnd := none } → s.chg = none → s.supply.waitList = [] →
    ∃ t : State, exec (.warmUpEnd dt i) s = .next t.beginMessage ∧ t.now = max (s.now + dt) tick ∧
      t.slot i = { s.slot i with
        power := false, state := .resting, lastProbe := none, shedPending := false, warm := none, restWaiting := false
        rest := some (t.now + su.profile.rest * 48000) } ∧
      (∀ j, j ≠ i → t.slot j = s.slot j) ∧ t.queues = s.queues ∧ t.out = s.out ∧ t.coin = s.coin ∧
      t.supply = { s.supply with permit := if s.supply.permit = some i then none else s.supply.permit }

/-- POWER_TRIP of a slot whose switch is closed: the switch opens, last probe and shed-pending go, the rest timer starts,
the slot is in FAULT (POWER_TRIP), its permit is free, a pulse in flight to it is abandoned with its units staying paid, no
other slot's record changes, and the source slot's trip takes the output to DARK with the bridge as sync source, blanked
and muted. Then the tasks this brings about are done. A slot whose switch is open cannot trip, but for the held slot whose
stall entered HOLDING in this same tick: its trip takes the output to DARK although the restart entry has opened the switch
already (R161), and that it also faults the slot and starts its rest timer as any trip does is the model's reading
(log 16). What follows in the queues is stated only as the tasks that `finish` does (R12, R86, R145). -/
def Obligations.PowerTripFaultsSlot : Prop :=
  ∀ (dt : Nat) (i : SlotNo) (s : State), s.Between → s.OutputLawful →
    let u := s.advance dt
    let sl := s.slot i
    let stalled := s.out.mode = .holding ∧ s.out.source = some i ∧ s.out.hold.stalledAt = some u.now
    (sl.power = false → ¬ stalled → exec (.powerTrip dt i) s = .next u.beginMessage) ∧
    (sl.power = true ∨ stalled → ∀ su, sl.setup = some su →
      ∃ t : State, exec (.powerTrip dt i) s = .next t.finish ∧
        (∃ setup, t.slot i = { sl with setup := some setup, power := false, state := .fault, lastFault := some .powerTrip
                                       lastProbe := none, shedPending := false, warm := none, restWaiting := false
                                       rest := some (u.now + su.profile.rest * 48000), testReturn := none
                                       probeReturn := none, faultAtEnd := false } ∧
          (s.out.source ≠ some i → setup = su)) ∧
        (∀ j, j ≠ i → t.slot j = s.slot j) ∧
        t.supply.permit = (if s.supply.permit = some i then none else s.supply.permit) ∧
        t.coin = { s.coin with pulse := if s.coin.pulse.map (·.slot) = some i then none else s.coin.pulse } ∧
        (s.out.source = some i →
          t.out.mode = .dark ∧ t.out.source = none ∧ t.out.sync = .bridge ∧ t.out.blanked = true ∧
          t.out.gain = 63 ∧ t.out.target = 63 ∧ t.out.classOut = s.out.classOut ∧ t.out.timing = s.out.timing))

/-! ## Work (R26 to R36) -/

/-- The check of a beginning step: POWER_OFF and HARNESS end IN_USE in the states and roles listed, unless the entry is the
restart entry or converted from it; PROBE ends NOT_POWERED in the unpowered states; POWER_ON and PAUSE always pass
(R28, R40). A PROBE step that passed its check moves a slot that is not ACTIVE to PROBING, with a SLOT notice, keeping the
state it had, and leaves an ACTIVE slot as it is; then a WORK request for the slot joins the tail of the probe wait list
where no engine is FREE, and goes to a FREE engine at once where the list is empty, the probe beginning (R15, R30, R46,
R47, R48, R50; that engine 0 takes it when both are FREE is the model's choice, log 13). -/
def Obligations.StepsCheckedAtStart : Prop :=
  (∀ (s : State) (i : SlotNo) (e : Entry),
    let st := (s.slot i).state
    let waived := e.kind = .restart ∨ e.waiver = true
    (s.stepCheck i e .powerOn = none) ∧ (∀ n, s.stepCheck i e (.pause n) = none) ∧
    (s.stepCheck i e .powerOff =
      if ¬ waived ∧ (st = .active ∨ s.target = some i) then some .inUse else none) ∧
    (∀ seed count, s.stepCheck i e (.harness seed count) =
      if ¬ waived ∧ (s.target = some i ∨ st = .active ∨ st = .starting ∨ st = .waiting ∨ st = .resting ∨ st = .probing) then
        some .inUse
      else none) ∧
    (s.stepCheck i e .probe =
      if st = .off ∨ st = .resting ∨ st = .waiting ∨ st = .starting ∨ st = .fault ∧ (s.slot i).power = false then
        some .notPowered
      else none)) ∧
  ∀ (s : State) (i : SlotNo), (s.slot i).state ≠ .probing →
    let sl := s.slot i
    let request : ProbeRequest := { kind := .work, slot := i }
    let probing : State := s.modSlot i fun x => { x with state := .probing, probeReturn := some sl.state }
    let moved : State :=
      if sl.state = .active then s
      else probing.notice (.slot i) [byteOf i.val, 6, if sl.power then 1 else 0, faultCode sl.lastFault]
    (s.engine 0 ≠ none → s.engine 1 ≠ none →
      s.startStep i .probe =
        State.push { moved with probeList := s.probeList ++ [request] } [.targetCheck, .heldCheck i]) ∧
    ∀ k : EngineNo, s.engine k = none → (k = 0 ∨ s.engine 0 ≠ none) → s.probeList = [] →
      s.startStep i .probe =
        State.push
          (moved.setEngine k (some
            { req := request, phase := .awaitFirst, watchFrom := s.now, firstAt := none, line := .notStarted
              countA := none, countB := none, opening := false, released := false }))
          [.targetCheck, .heldCheck i]

/-- The end of a running controller entry's step: OK with steps left goes on with the next step; otherwise the entry
leaves its queue at once and its COMPLETION notice carries the steps that ended OK, the result and the probe record
given (R27, R32, R33). PAUSE_END on the last step of the only controller entry, with no output entry and no shed
pending: the entry ends OK and its COMPLETION notice is queued or held. On a step before the last whose successor is a
PAUSE, that one begins at once. Without a running pause only time passes (R27, R29, R33, log 2). -/
def Obligations.StepEndContinuesOrEndsEntry : Prop :=
  (∀ (s : State) (i : SlotNo) (e : Entry) (rest : List Entry) (tag : Byte) (r : Result) (p : Option ProbeRecord),
     (s.queue i).ctrl = e :: rest → (s.queue i).running = some .controller → e.kind = .controller tag → e.marked = false →
       (r = .ok → e.done + 1 < e.steps.length →
         s.stepEnds i r p =
           (s.modQueue i fun q => { q with ctrl := { e with done := e.done + 1 } :: rest, pauseEnd := none }).push
             [.beginStep i]) ∧
       (r ≠ .ok ∨ e.steps.length ≤ e.done + 1 →
         s.stepEnds i r p =
           ((s.modQueue i fun q => { q with ctrl := rest, running := none, pauseEnd := none }).complete tag
             (workCompletion i (if r = .ok then e.done + 1 else e.done) r p)).push [.turn i])) ∧
  ∀ (dt : Nat) (i : SlotNo) (s : State), s.Between →
    let u := s.advance dt
    let q := s.queue i
    (q.pauseEnd = none → exec (.pauseEnd dt i) s = .next u.beginMessage) ∧
    ∀ tick e tag, q.pauseEnd = some tick → q.ctrl = [e] → q.out = none → q.running = some .controller →
      e.kind = .controller tag → e.marked = false →
      (e.steps.length = e.done + 1 → (s.slot i).shedPending = false →
        exec (.pauseEnd dt i) s = .next
          (((u.reach tick).modQueue i fun _ => { ctrl := [], out := none, running := none, pauseEnd := none }).complete tag
            (workCompletion i (e.done + 1) .ok none)).beginMessage) ∧
      (∀ n, e.steps[e.done + 1]? = some (.pause n) →
        exec (.pauseEnd dt i) s = .next
          (State.beginMessage ((u.reach tick).modQueue i fun q =>
            { q with ctrl := [{ e with done := e.done + 1 }], pauseEnd := some (max u.now tick + n * 48000) })))

/-- The steps SLOT-WORK stores: a seed of 0 as 1, a pattern count within 1 to 4,096, a pause within 100 to 10,000 ms; none
exactly for a step count of 0 or above 4 or for a kind code within the count that names no step (R26, R34). SLOT-WORK:
the refusals in their order; otherwise the ACCEPTED reply carries the steps as stored and the entry joins the tail of
the slot's controller entries. It waits behind a running entry; in an empty queue its first step begins at once, here
a PAUSE, whose timer starts (R27, R29, R34; the zeros in the reply's unused step places are the model's choice, log 20). -/
def Obligations.SlotWorkStoresAndPlacesEntry : Prop :=
  ((∀ r : RawStep,
     let seed : Lines := r.params.extractLsb' 16 24
     let count := (r.params.extractLsb' 0 16).toNat
     let pause := (r.params.extractLsb' 24 16).toNat
     storeStep r =
       if r.kind = 1 then some .powerOn
       else if r.kind = 2 then some .powerOff
       else if r.kind = 3 then some .probe
       else if r.kind = 4 then some (.harness (if seed = 0 then 1 else seed) (max 1 (min 4096 count)))
       else if r.kind = 5 then some (.pause (max 100 (min 10000 pause)))
       else none) ∧
   ∀ (count : Byte) (steps : Vector RawStep 4),
     (readSteps count steps = none ↔
       count = 0 ∨ 4 < count.toNat ∨ ∃ n : Fin 4, n.val < count.toNat ∧ storeStep steps[n] = none) ∧
     ∀ l, readSteps count steps = some l → l.length = count.toNat ∧
       ∀ n : Fin 4, n.val < count.toNat → l[n.val]? = storeStep steps[n]) ∧
  ∀ (dt : Nat) (tag slot count : Byte) (v : Vector RawStep 4) (s : State), s.TakesRequests →
    let u := s.received dt
    (7 < slot.toNat → exec (.slotWork dt tag slot count v) s = .next (u.replied 0x0A tag [2, 3])) ∧
    ∀ i : SlotNo, i.val = slot.toNat →
      let q := s.queue i
      ((s.slot i).state = .unconfigured → exec (.slotWork dt tag slot count v) s = .next (u.replied 0x0A tag [2, 5])) ∧
      ((s.slot i).state ≠ .unconfigured →
        (readSteps count v = none ∨ tag = 0 →
          exec (.slotWork dt tag slot count v) s = .next (u.replied 0x0A tag [2, 4])) ∧
        ∀ l, readSteps count v = some l → tag ≠ 0 →
          let e : Entry := { kind := .controller tag, steps := l, done := 0, waiver := false, marked := false }
          let accepted : State := u.reply 0x0A tag (1 :: byteOf i.val :: count :: stepsBlock l)
          (4 ≤ q.ctrl.length → exec (.slotWork dt tag slot count v) s = .next (u.replied 0x0A tag [2, 6])) ∧
          (q.ctrl.length < 4 → q.running ≠ none →
            exec (.slotWork dt tag slot count v) s = .next
              (accepted.modQueue i fun q => { q with ctrl := q.ctrl ++ [e] }).beginMessage) ∧
          (q.ctrl = [] → q.out = none → q.running = none → ∀ n, l.head? = some (.pause n) →
            exec (.slotWork dt tag slot count v) s = .next
              (accepted.modQueue i fun q =>
                { q with ctrl := [e], running := some .controller
                         pauseEnd := some (u.now + n * 48000) }).beginMessage))

/-- What ending a running step under ABORT-WORK does where it stands: a WAITING slot leaves the wait list and becomes OFF,
a power-on waiting on the rest timer loses its mark, a STARTING slot warms up on, a slot whose HARNESS step waits for
the tester only leaves its wait list (R11, R36). A PROBE step's request leaves the list, or its engine is freed without a
result and takes the head of the list, and a PROBING slot goes back to the state it had, its last probe kept; a running
test stops INCOMPLETE, the tester is FREE, and the slot goes back to its test return state (R36, R49, R169). No hold has
expired over the slot. ABORT-WORK: BAD_SLOT for a slot above 7; DONE with 0 on a queue without controller entries; with
one running entry, DONE with 1, its step ended so, an empty queue and its COMPLETION notice ABORTED with the steps it has
done; and with a PAUSE running in the older of two controller entries, DONE with 2, an empty queue, and then both
COMPLETION notices ABORTED, the running entry's first. So the command leaves a next state in each of these cases. No shed
is pending and no output entry stands in the queue; the output is not HOLDING (R35, R36). What the ended step brings about
(a freed tester's next test, the queue's turn) are the tasks that are done before the command ends (log 17). -/
def Obligations.AbortWorkEndsEntries : Prop :=
  (∀ (s : State) (i : SlotNo), (s.slot i).faultAtEnd = false →
     ((s.queue i).step = some .powerOn → (s.slot i).state = .waiting →
       s.abortStep i =
         State.setState { s with supply := { s.supply with waitList := s.supply.waitList.erase i } } i .off) ∧
     ((s.queue i).step = some .powerOn → (s.slot i).state ≠ .waiting →
       s.abortStep i = s.modSlot i fun sl => { sl with restWaiting := false }) ∧
     (∀ n, (s.queue i).step = some (.pause n) → s.abortStep i = s) ∧
     (∀ seed n, (s.queue i).step = some (.harness seed n) → s.testRunsOn i = false →
       s.abortStep i = { s with tester := { s.tester with wait := s.tester.wait.filter fun j => decide (j ≠ i) } }) ∧
     (∀ st, (s.queue i).step = some .probe → (s.slot i).probeReturn = some st →
       let r : ProbeRequest := { kind := .work, slot := i }
       let left (t : State) : State :=
         if (s.slot i).state = .probing then (t.modSlot i fun sl => { sl with probeReturn := none }).setState i st else t
       (s.engine 0 ≠ none → s.engine 1 ≠ none → (∀ k m, s.engine k = some m → m.req ≠ r) →
         s.abortStep i = left { s with probeList := s.probeList.filter fun x => decide (x ≠ r) }) ∧
       ∀ (k : EngineNo) (m : Measure), s.engine k = some m → m.req = r → m.released = false →
         (∀ j, j ≠ k → ∃ n, s.engine j = some n ∧ n.req ≠ r) →
         (s.probeList = [] → s.abortStep i = left (s.setEngine k none)) ∧
         ∀ x rest, s.probeList = x :: rest → r ∉ s.probeList →
           s.abortStep i = left (State.setEngine { s with probeList := rest } k (some
             { req := x, phase := .awaitFirst, watchFrom := s.now, firstAt := none, line := .notStarted
               countA := none, countB := none, opening := false, released := false }))) ∧
     (∀ seed n st, (s.queue i).step = some (.harness seed n) → s.testRunsOn i = true →
       (s.slot i).testReturn = some st →
       s.abortStep i =
         ((State.modSlot
           { s with tester := { s.tester with
               run := none, record := s.tester.record.map fun r => { r with verdict := some .incomplete } } } i
           fun sl => { sl with testReturn := none }).setState i st).push [.tester])) ∧
  ∀ (dt : Nat) (tag slot : Byte) (s : State), s.TakesRequests →
    let u := s.received dt
    (7 < slot.toNat → exec (.abortWork dt tag slot) s = .next (u.replied 0x0B tag [2, 3])) ∧
    ∀ i : SlotNo, i.val = slot.toNat → s.out.mode ≠ .holding → (s.slot i).shedPending = false →
      let q := s.queue i
      (q.ctrl = [] → q.out = none → q.running = none →
        exec (.abortWork dt tag slot) s = .next (u.replied 0x0B tag [0, 0])) ∧
      (∀ e a, q.ctrl = [e] → q.out = none → q.running = some .controller → e.kind = .controller a →
        let begun := (u.reply 0x0B tag [0, 1]).push [.heldCheck i, .turn i, .shed i]
        exec (.abortWork dt tag slot) s = .next
          ((((begun.abortStep i).modQueue i fun _ =>
            { ctrl := [], out := none, running := none, pauseEnd := none }).complete a
              (workCompletion i e.done .aborted none)).cascade.finish)) ∧
      (∀ e f a b n, q.ctrl = [e, f] → q.out = none → q.running = some .controller → e.kind = .controller a →
        f.kind = .controller b → e.step = some (.pause n) → f.done = 0 →
        exec (.abortWork dt tag slot) s = .next
          (((((u.reply 0x0B tag [0, 2]).modQueue i fun _ =>
            { ctrl := [], out := none, running := none, pauseEnd := none }).complete a
              (workCompletion i e.done .aborted none)).complete b (workCompletion i 0 .aborted none)).beginMessage))

/-! ## Sync timing (R42 to R63) -/

/-- The class of a stored line rate, and the edges of the HIGH band in T256 (R60). -/
def Obligations.ClassTakenFromLineRate : Prop :=
  (∀ rate : Nat,
    (14500 ≤ rate ∧ rate ≤ 16999 ↔ classOf rate = .low) ∧ (23000 ≤ rate ∧ rate ≤ 25999 ↔ classOf rate = .medium) ∧
    (29500 ≤ rate ∧ rate ≤ 32999 ↔ classOf rate = .high)) ∧
  lineRate 372370 = 32999 ∧ classOf (lineRate 372370) = .high ∧ lineRate 372369 = 33000 ∧
  (∀ t256 : Nat, 0 < t256 → t256 < 372370 → classOf (lineRate t256) ≠ .high)

/-- The figures a completed probe derives, for every T256 and counts within their ranges: the line rate is within half a
hertz of 12,288,000,000 / T256, halves up, and stored at most 65,535; line ticks and bridge frame lines are clamped; the
frame rate is within half a cHz of 2,457,600,000,000 / (T256 × (A + B)), halves up, and stored at most 65,535; interlaced
means exactly one apart; and GOOD is exactly the four conditions (R56 to R59, R61). -/
def Obligations.ProbeFiguresDerived : Prop :=
  ∀ t256 a b : Nat, 1 ≤ t256 → t256 ≤ 16777215 → 1 ≤ a → a ≤ 1023 → 1 ≤ b → b ≤ 1023 →
    ∃ d, (goodRecord t256 a b).derived = some d ∧
      (∃ n, (2 * n - 1) * t256 ≤ 2 * 12288000000 ∧ 2 * 12288000000 < (2 * n + 1) * t256 ∧ d.lineRate = min 65535 n) ∧
      (∃ n, (2 * n - 1) * 256 ≤ 2 * t256 ∧ 2 * t256 < (2 * n + 1) * 256 ∧ d.lineTicks = max 1400 (min 3400 n)) ∧
      d.frameLines = max 200 (min 1023 a) ∧
      (∃ n, (2 * n - 1) * (t256 * (a + b)) ≤ 2 * 2457600000000 ∧ 2 * 2457600000000 < (2 * n + 1) * (t256 * (a + b)) ∧
        d.frameRate = min 65535 n) ∧
      (d.interlaced = true ↔ a = b + 1 ∨ b = a + 1) ∧ d.cls = classOf d.lineRate ∧
      ((goodRecord t256 a b).verdict = .good ↔
        d.cls ≠ .out ∧ 200 ≤ a ∧ 200 ≤ b ∧ 4000 ≤ d.frameRate ∧ d.frameRate ≤ 7500 ∧ a ≤ b + 1 ∧ b ≤ a + 1) ∧
      ((goodRecord t256 a b).verdict ≠ .good → (goodRecord t256 a b).verdict = .outOfRange)

/-- A probe at a frame pulse: the first opens count A, the second ends it and opens count B, the third ends count B, a
frame without a line ends the probe NO_HSYNC, later pulses only set the frame watch back; a line pulse taken in the same
tick belongs to the frame that opens, whether the ended frame's count holds it or not (R50, R52, R53, R54). A probe at a
line pulse, with the frame watch still running: nothing before the first frame pulse; the line-period count starts at the
first line pulse after that pulse's tick, counts each further one, is DONE with the ticks passed at the 256th and ends the
probe NO_HSYNC past 16,777,215 ticks; each line raises the count of its frame, and the 1,024th line of a frame ends the
probe LINES_OVER with 1,023 kept. A line that opens the next frame, the frame pulse of the same tick being still to come,
is in no count until that pulse is taken (the model's reading, log 3). After the third frame pulse the line-period count goes on alone, and the 256th line pulse
ends the probe with its record (R51, R52, R54). -/
def Obligations.ProbeTakesPulses : Prop :=
  (∀ (m : Measure) (now : Nat) (co : Bool),
     let w : Measure := { m with watchFrom := now, opening := false }
     let ended (n : Nat) : Nat := if co = true ∧ m.opening = false then n - 1 else n
     let opened : Nat := if co then 1 else 0
     (m.phase = .awaitFirst →
       m.framePulse now co = .goes { w with phase := .countA, firstAt := some now, countA := some opened }) ∧
     (∀ n, m.phase = .countA → m.countA = some n → ended n ≠ 0 →
       m.framePulse now co = .goes { w with phase := .countB, countA := some (ended n), countB := some opened }) ∧
     (∀ n, m.phase = .countA → m.countA = some n → ended n = 0 →
       m.framePulse now co = .ends (Measure.failRecord { w with countA := some 0 } .noHsync)) ∧
     (∀ n, m.phase = .countB → m.countB = some n → ended n = 0 →
       m.framePulse now co = .ends (Measure.failRecord { w with countB := some 0 } .noHsync)) ∧
     (∀ n t a, m.phase = .countB → m.countB = some n → ended n ≠ 0 → m.countA = some a → m.line = .done t →
       m.framePulse now co = .ends (goodRecord t a (ended n))) ∧
     (∀ n, m.phase = .countB → m.countB = some n → ended n ≠ 0 → (∀ t, m.line ≠ .done t) →
       m.framePulse now co = .goes { w with phase := .framesDone, countB := some (ended n) }) ∧
     (m.phase = .framesDone → m.framePulse now co = .goes w)) ∧
  ∀ (m : Measure) (now : Nat) (opens : Bool), now < m.watchFrom + 4800000 →
    (m.phase = .awaitFirst → m.linePulse now opens = .goes m) ∧
    (∀ first n, m.firstAt = some first → opens = true ∨ n < 1023 →
      (m.phase = .countA ∧ m.countA = some n ∨ m.phase = .countB ∧ m.countB = some n) →
      let counted (l : LinePeriod) : Measure :=
        if opens then { m with line := l, opening := true }
        else if m.phase = .countA then { m with line := l, countA := some (n + 1), opening := false }
        else { m with line := l, countB := some (n + 1), opening := false }
      (m.line = .notStarted → first ≠ now → m.linePulse now opens = .goes (counted (.running 0 now))) ∧
      (m.line = .notStarted → first = now → m.linePulse now opens = .goes (counted .notStarted)) ∧
      (∀ k start, m.line = .running k start → now - start ≤ 16777215 → k < 255 →
        m.linePulse now opens = .goes (counted (.running (k + 1) start))) ∧
      (∀ start, m.line = .running 255 start → now - start ≤ 16777215 → start < now →
        m.linePulse now opens = .goes (counted (.done (now - start)))) ∧
      (∀ t, m.line = .done t → m.linePulse now opens = .goes (counted (.done t)))) ∧
    (∀ k start, m.phase ≠ .awaitFirst → m.line = .running k start → 16777215 < now - start →
      m.linePulse now opens = .ends (m.failRecord .noHsync)) ∧
    (∀ t, m.line = .done t → opens = false →
      (m.phase = .countA ∧ m.countA = some 1023 ∨ m.phase = .countB ∧ m.countB = some 1023) →
      m.linePulse now opens = .ends (m.failRecord .linesOver)) ∧
    (m.phase = .framesDone →
      (∀ k start, m.line = .running k start → now - start ≤ 16777215 → k < 255 →
        m.linePulse now opens = .goes { m with line := .running (k + 1) start }) ∧
      ∀ start a b, m.line = .running 255 start → now - start ≤ 16777215 → start < now → m.countA = some a →
        m.countB = some b → m.linePulse now opens = .ends (goodRecord (now - start) a b))

/-- LINE_PULSE and FRAME_PULSE report an edge of a slot's sync input, whose delayed level it sets. An edge that does not
go to the input's pulse level, or of a frame pulse narrower than 401 ticks, is no event: nothing else changes but the time
(R42, R43; that the commands carry the edge's level and the pulse's width is the model's choice, log 32). The monitor's
line sync and frame sync are negative-going: with a slot as sync source they are low exactly while its delayed input
stands at its pulse level, and with the bridge in the first thirteenth of each line and the first 3 lines of each frame
(R67, R68). A pulse of a slot that one engine measures and that plays no part for the output (the output is DARK): the tap
keeps the tick and the engine's probe goes on as it takes the pulse; a line that opens the frame of a frame pulse of its
tick opens the next frame where that pulse is still to come, and counts in the running frame where it has been taken
(R52). Without an engine on the slot only the tap changes (R42, R44). PULSE_LEVEL_WINDOW_END: each input's pulse level becomes the level it held for the shorter part of the
1,048,576 ticks and stays on equal parts; no event is reported (R43). -/
def Obligations.PulsesReachEngineAndSetLevels : Prop :=
  (∀ (dt : Nat) (i : SlotNo) (high opens : Bool) (width : Nat) (s : State), s.Between →
     ((s.tap i).linePulseHigh ≠ high →
       exec (.linePulse dt { slot := i, high := high, opens := opens }) s =
         .next (State.beginMessage ((s.advance dt).modTap i fun t => { t with lineHigh := high }))) ∧
     ((s.tap i).framePulseHigh ≠ high ∨ width < 401 →
       exec (.framePulse dt { slot := i, high := high, width := width }) s =
         .next (State.beginMessage ((s.advance dt).modTap i fun t => { t with frameHigh := high })))) ∧
  (∀ s : State,
    (∀ i, s.out.sync = .slot i →
      (s.monitorSyncLevels.1 = false ↔ (s.tap i).lineHigh = (s.tap i).linePulseHigh) ∧
      (s.monitorSyncLevels.2 = false ↔ (s.tap i).frameHigh = (s.tap i).framePulseHigh)) ∧
    (s.out.sync = .bridge →
      let into := s.now - s.out.frameStart
      (s.monitorSyncLevels.1 = false ↔ into % s.out.current.ticks < s.out.current.ticks / 13) ∧
      (s.monitorSyncLevels.2 = false ↔ into < 3 * s.out.current.ticks))) ∧
  (∀ (dt : Nat) (i : SlotNo) (opens : Bool) (width : Nat) (s : State), s.Between → s.out.mode = .dark → 401 ≤ width →
     let u := s.advance dt
     let line : Instr := .linePulse dt { slot := i, high := (s.tap i).linePulseHigh, opens := opens }
     let frame : Instr := .framePulse dt { slot := i, high := (s.tap i).framePulseHigh, width := width }
     let lined : State := u.modTap i fun t => { t with lineHigh := t.linePulseHigh, lastLine := some u.now }
     let framed : State := u.modTap i fun t => { t with frameHigh := t.framePulseHigh, lastFrame := some u.now }
     (s.engineOn 0 i = false → s.engineOn 1 i = false →
       exec line s = .next lined.beginMessage ∧ exec frame s = .next framed.beginMessage) ∧
     ∀ (k : EngineNo) (m n : Measure), s.engine k = some m → m.req.slot = i → (∀ j, j ≠ k → s.engineOn j i = false) →
       (m.linePulse u.now (opens && decide ((s.tap i).lastFrame ≠ some u.now)) = .goes n →
          exec line s = .next (lined.setEngine k (some n)).beginMessage) ∧
       (m.framePulse u.now (decide ((s.tap i).lastLine = some u.now)) = .goes n →
         exec frame s = .next (framed.setEngine k (some n)).beginMessage)) ∧
  ∀ (dt : Nat) (i : SlotNo) (lineLow frameLow : Nat) (s : State), s.Between → lineLow ≤ 1048576 → frameLow ≤ 1048576 →
    let level (low : Nat) (high : Bool) : Bool :=
      if low < 524288 then false else if 524288 < low then true else high
    exec (.pulseLevelWindowEnd dt i lineLow frameLow) s = .next
      (State.beginMessage ((s.advance dt).modTap i fun t =>
        { t with linePulseHigh := level lineLow t.linePulseHigh, framePulseHigh := level frameLow t.framePulseHigh }))

/-- PROBE_FRAME_WATCH_END and LINE_PERIOD_OVERFLOW end an engine's probe NO_VSYNC and NO_HSYNC at their tick. The engine
is FREE and, with no request waiting, stays so; a released probe hands its record to no one, a WORK probe hands it to the
slot's step and an OUTPUT probe to the Output Path (R51, R53, R55, R63). That a FREE engine ignores both, and one whose
line count is not running the second, is the model's choice (log 2). The record of a WORK probe, handed to the slot's
step: PROBING goes to READY on GOOD and otherwise to FAULT with the verdict as last fault, the record stored as last
probe; where a hold has expired over the slot it goes to FAULT (SYNC_LOST) on every verdict, the record stored too; an
ACTIVE slot keeps its state and its last probe; and the step then ends with the result the verdict names (R15, R30, R63,
R160). The record of an OUTPUT probe of the held slot, ACTIVE or READY, with no rejoin stage running, and the last probe of
a restart entry that ended OK, with the slot READY: GOOD in the class output's class and accepted by the monitor is copied as
the source probe, programs the bridge and begins the rejoin's ALIGN with its 250 ms timer, counting from a frame pulse of
this tick; GOOD otherwise puts the slot in FAULT (TIMING_CHANGED) and the output in DARK with that cause; an OUTPUT record
of another verdict is discarded, and so is one that finds the slot in another state or a rejoin running, which is the model's
reading (log 14). A restart entry that failed takes the output to DARK with cause RESTART_FAILED. Nothing happens when
the output no longer holds the slot (R39, R82, R83, R158, R159). -/
def Obligations.ProbeEndsAndIsApplied : Prop :=
  (∀ (dt : Nat) (k : EngineNo) (s : State), s.Between →
     let u := s.advance dt
     let handed (t : State) (q : ProbeRequest) (p : ProbeRecord) : State :=
       (t.push [match q.kind with | .work => .probeDone q.slot p | .output => .outputProbeDone q.slot p]).finish
     (s.engine k = none →
       exec (.probeFrameWatchEnd dt k) s = .next u.beginMessage ∧ exec (.linePeriodOverflow dt k) s = .next u.beginMessage) ∧
     ∀ m, s.engine k = some m → s.probeList = [] →
       let watched : State := (u.reach (m.watchFrom + 4800000)).setEngine k none
       (m.released = true → exec (.probeFrameWatchEnd dt k) s = .next watched.beginMessage) ∧
       (m.released = false →
         exec (.probeFrameWatchEnd dt k) s = .next (handed watched m.req (m.failRecord .noVsync))) ∧
       ((∀ n start, m.line ≠ .running n start) → exec (.linePeriodOverflow dt k) s = .next u.beginMessage) ∧
       ∀ n start, m.line = .running n start → max u.now (start + 16777216) < m.watchFrom + 4800000 →
         let passed : State := (u.reach (start + 16777216)).setEngine k none
         (m.released = true → exec (.linePeriodOverflow dt k) s = .next passed.beginMessage) ∧
         (m.released = false →
           exec (.linePeriodOverflow dt k) s = .next (handed passed m.req (m.failRecord .noHsync)))) ∧
  (∀ (s : State) (i : SlotNo) (p : ProbeRecord),
    let t := s.workProbeDone i p
    let sl := s.slot i
    let result : Result :=
      match p.verdict with
      | .good => .ok
      | .noVsync => .noVsync
      | .noHsync => .noHsync
      | .linesOver => .linesOver
      | .outOfRange => .outOfRange
    (sl.state = .probing → sl.faultAtEnd = false → p.verdict = .good →
      t.slot i = { sl with state := .ready, lastProbe := some p, probeReturn := none }) ∧
    (sl.state = .probing → sl.faultAtEnd = false → p.verdict ≠ .good →
      t.slot i = { sl with state := .fault, lastFault := some result, lastProbe := some p, probeReturn := none }) ∧
    (sl.state = .probing → sl.faultAtEnd = true →
      t.slot i = { sl with
        state := .fault, lastFault := some .syncLost, lastProbe := some p, probeReturn := none, faultAtEnd := false }) ∧
    (sl.state = .active → t.slot i = sl) ∧
    (∀ j, j ≠ i → t.slot j = s.slot j) ∧ t.out = s.out ∧ t.chg = s.chg ∧ t.coin = s.coin ∧ t.queues = s.queues ∧
    t.todo = [.targetCheck, .heldCheck i, .stepEnd i result (some p)] ++ s.todo) ∧
  (∀ (s : State) (i : SlotNo) (p : ProbeRecord) (r : Result), s.out.mode ≠ .holding ∨ s.out.source ≠ some i →
    s.outputProbeDone i p = s ∧ s.restartOutcome i r = s) ∧
  ∀ (s : State) (i : SlotNo) (p : ProbeRecord) (su : Setup), s.out.mode = .holding → s.out.source = some i →
    (s.slot i).setup = some su →
    let sl := s.slot i
    let measurable := sl.state = .active ∨ sl.state = .ready
    let stored : Setup :=
      { profile := { su.profile with audioLevel := s.out.stagedLevel.getD su.profile.audioLevel }
        map := s.out.stagedMap.getD su.map }
    let pulsed := (s.tap i).lastFrame = some s.now
    let suits (d : Derived) : Prop :=
      d.cls = s.out.classOut ∧ s.settings.accepts d.cls = true ∧ s.settings.windowLow ≤ d.frameRate ∧
        d.frameRate ≤ s.settings.windowHigh
    let kept (t : State) : Prop :=
      (∀ j, j ≠ i → t.slot j = s.slot j) ∧ t.queues = s.queues ∧ t.coin = s.coin ∧ t.chg = s.chg ∧ t.supply = s.supply
    let rejoins (t : State) (d : Derived) : Prop :=
      kept t ∧ t.link = s.link ∧ t.todo = s.todo ∧
      t.out = { s.out with
        sourceProbe := some p, timing := { ticks := d.lineTicks, lines := d.frameLines }
        hold := { s.out.hold with
          rejoin := some .align, probing := false, awaitReady := false
          cut := { opened := decide pulsed
                   alignCount := if pulsed ∧ (s.tap i).lastLine = some s.now then 1 else 0
                   settleCount := 0, settleFrames := 0, timer := some (s.now + 12000000) } } }
    let darkens (t : State) : Prop :=
      kept t ∧ t.out = s.out.inDark s.now ∧ t.sampler = { s.sampler with sampling := false, line := none, point := 0 }
    let faulted (probe : Option ProbeRecord) : Slot :=
      { sl with state := .fault, lastFault := some .timingChanged, lastProbe := probe, setup := some stored }
    let refuses (t : State) : Prop :=
      darkens t ∧ t.todo = .shed i :: s.todo ∧
        ∃ body, t.link = ((s.notice (.slot i) body).notice .output [0, 0xFF, 8, 1, s.out.classOut.code, 6]).link
    (s.out.hold.rejoin ≠ none ∨ ¬ measurable ∨ p.verdict ≠ .good → s.outputProbeDone i p = s) ∧
    (∀ d, s.out.hold.rejoin = none → measurable → p.verdict = .good → p.derived = some d →
      (suits d → rejoins (s.outputProbeDone i p) d ∧ (s.outputProbeDone i p).slot i = { sl with lastProbe := some p }) ∧
      (¬ suits d → refuses (s.outputProbeDone i p) ∧ (s.outputProbeDone i p).slot i = faulted (some p))) ∧
    (∀ d, sl.state = .ready → sl.lastProbe = some p → p.verdict = .good → p.derived = some d →
      (suits d → rejoins (s.restartOutcome i .ok) d ∧ (s.restartOutcome i .ok).slot i = sl) ∧
      (¬ suits d → refuses (s.restartOutcome i .ok) ∧ (s.restartOutcome i .ok).slot i = faulted (some p))) ∧
    ∀ r, r ≠ .ok →
      darkens (s.restartOutcome i r) ∧ (s.restartOutcome i r).todo = s.todo ∧
      (s.restartOutcome i r).slot i = { sl with setup := some stored } ∧
      (s.restartOutcome i r).link = (s.notice .output [0, 0xFF, 8, 1, s.out.classOut.code, 8]).link

/-! ## The output path (R66 to R86, R152 to R160) -/

/-- BRIDGE_FRAME_START: at the end of the running bridge frame the next begins at the programmed timing; outside a RECLASS
that counts frames nothing else changes. In one that counts them, the third start with the deadline passed begins
ALIGN with its 250 ms timer, and an earlier one is only counted (R69, R100, R101). CLASS_SETTLE_DEADLINE begins ALIGN
with its 250 ms timer in a RECLASS that changed the class, and in one that has counted its third bridge frame start;
in every other case only time passes (R100, R101). -/
def Obligations.BridgeFramesAndDeadlineBeginAlign : Prop :=
  (∀ (dt : Nat) (s : State), s.Between →
     let u := (s.advance dt).reach (s.out.frameStart + s.out.current.ticks * s.out.current.lines)
     let started : State := { u with out := { s.out with current := s.out.timing, frameStart := u.now } }
     ((∀ c, s.chg = some c → c.stage ≠ .reclass ∨ c.starts = none) →
       exec (.bridgeFrameStart dt) s = .next started.beginMessage) ∧
     ∀ c n, s.chg = some c → c.stage = .reclass → c.starts = some n →
       (n < 2 ∨ u.now < s.classDeadline →
         exec (.bridgeFrameStart dt) s = .next
           (State.beginMessage { started with chg := some { c with starts := some (min 3 (n + 1)) } })) ∧
       (2 ≤ n → s.classDeadline ≤ u.now →
         exec (.bridgeFrameStart dt) s = .next
           (State.beginMessage { started with chg := some { c with
               starts := some (min 3 (n + 1)), stage := .align, cut := { Cut.none with timer := some (u.now + 12000000) } } }))) ∧
  ∀ (dt : Nat) (s : State), s.Between →
    let u := (s.advance dt).reach s.classDeadline
    (∀ c, s.chg = some c → c.stage = .reclass → (c.starts = none ∨ ∃ n, c.starts = some n ∧ 3 ≤ n) →
      exec (.classSettleDeadline dt) s = .next
        (State.beginMessage { u with chg := some { c with
            stage := .align, cut := { Cut.none with timer := some (u.now + 12000000) } } })) ∧
    ((∀ c, s.chg = some c → c.stage ≠ .reclass ∨ ∃ n, c.starts = some n ∧ n < 3) →
      exec (.classSettleDeadline dt) s = .next u.beginMessage)

/-- AUDIO_STEP moves the gain one step toward its target, or leaves it there. In FADE, when it brings the gain to 63 with no
pulse in flight and a slot as sync source, the stage BRIDGE begins with its 250 ms timer (R74, R93, R94). -/
def Obligations.AudioStepMovesGain : Prop :=
  ∀ (dt : Nat) (s : State), s.Between →
    let u := s.advance dt
    let g := s.out.gain
    let gain := if g < s.out.target then g + 1 else if s.out.target < g then g - 1 else g
    let stepped : State := { u with out := { s.out with gain := gain } }
    ((∀ c, s.chg = some c → c.stage ≠ .fade) ∨ gain ≠ 63 ∨ s.coin.pulse ≠ none →
      exec (.audioStep dt) s = .next stepped.beginMessage) ∧
    ∀ c, s.chg = some c → c.stage = .fade → gain = 63 → s.coin.pulse = none → s.out.sync ≠ .bridge →
      exec (.audioStep dt) s = .next
        (State.beginMessage { stepped with chg := some { c with
            stage := .bridge, cut := { Cut.none with timer := some (u.now + 12000000) } } })

/-- WATCH_FRAME_TIMER_END is the loss of the source slot's sync: HOLDING in its LOSS form with that slot held, the bridge
as sync source with a new frame at the programmed timing, blanked, muted, the watch stopped, the sampler IDLE, the
hold timer at the recovery window, and an OUTPUT notice with cause LOSS_NO_SYNC; slots, payout and staged items stay
as they are. Without a running watch only time passes (R78, R79, log 2). HOLD_TIMER_EXPIRY over a held slot that is
ACTIVE, READY, WARM, RESTING, OFF or in FAULT, with no work in its queue, no shed pending and nothing staged: the slot
is in FAULT (SYNC_LOST) with its power and timers as they are, with a SLOT notice unless it was in FAULT already (that
there is none then is the model's reading, log 19), and the output is DARK, with an OUTPUT notice of cause SYNC_LOST. Without a running hold timer only time passes (R16, R85, R160, log 2). -/
def Obligations.LossHoldsAndExpiryFaults : Prop :=
  (∀ (dt : Nat) (s : State), s.Between →
     let u := s.advance dt
     (s.out.watch.timer = none → exec (.watchFrameTimerEnd dt) s = .next u.beginMessage) ∧
     ∀ tick i su, s.out.watch.timer = some tick → s.out.source = some i → (s.slot i).setup = some su →
       let now := max u.now tick
       let held : Hold :=
         { timer := some (now + su.profile.recovery * 48000), form := some .loss, rejoin := none, cut := Cut.none
           probing := true, awaitReady := false, stalledAt := none }
       let out : Output :=
         { s.out with
           mode := .holding, sync := .bridge, blanked := true, gain := 63, target := 63, current := s.out.timing
           frameStart := now, watch := { s.out.watch with timer := none }, hold := held }
       exec (.watchFrameTimerEnd dt) s = .next
         (State.noticed
           { u with now := now, out := out, sampler := { s.sampler with sampling := false, line := none, point := 0 } }
           .output [3, byteOf i.val, 8, 1, s.out.classOut.code, 2])) ∧
  ∀ (dt : Nat) (s : State), s.Between →
    let u := s.advance dt
    (s.out.hold.timer = none → exec (.holdTimerExpiry dt) s = .next u.beginMessage) ∧
    ∀ tick (i : SlotNo), s.out.hold.timer = some tick → s.out.mode = .holding → s.out.source = some i →
      (s.slot i).state ∈ [SlotState.active, .ready, .warm, .resting, .off, .fault] →
      s.queue i = { ctrl := [], out := none, running := none, pauseEnd := none } → (s.slot i).shedPending = false →
      s.out.stagedLevel = none → s.out.stagedMap = none →
      ∃ t : State, exec (.holdTimerExpiry dt) s = .next t.beginMessage ∧
        t.slot i = { s.slot i with state := .fault, lastFault := some .syncLost } ∧
        (∀ j, j ≠ i → t.slot j = s.slot j) ∧ t.queues = s.queues ∧ t.coin = s.coin ∧ t.chg = s.chg ∧
        t.supply = s.supply ∧
        t.out = { s.out with
          mode := .dark, source := none, sourceProbe := none, sync := .bridge, blanked := true, gain := 63, target := 63
          stagedMap := none, stagedLevel := none, watch := { s.out.watch with timer := none }, hold := Hold.none
          current := t.out.current, frameStart := t.out.frameStart } ∧
        (s.out.sync = .bridge → t.out.current = s.out.current ∧ t.out.frameStart = s.out.frameStart) ∧
        (s.out.sync ≠ .bridge → t.out.current = s.out.timing ∧ t.out.frameStart = max u.now tick) ∧
        let faulted : State :=
          if (s.slot i).state = .fault then s
          else s.notice (.slot i) [byteOf i.val, 10, if (s.slot i).power then 1 else 0, 10]
        t.link = (faulted.notice .output [0, 0xFF, 8, 1, s.out.classOut.code, 5]).link

/-- A frame pulse of the showing slot, taken by the watch. A line pulse of the same tick taken before it belongs to the frame that
opens, in the watch and in the sampler (R52, R77, R153; the order of the two is the sender's, log 3). The frame that ended is
compared with count A of the source probe, or of an interlaced board with the nearer of counts A and B: a frame within 8 lines
clears the irregular-frame count, another raises it, and the eighth in a row is a loss at that pulse, with an OUTPUT notice of
cause LOSS_FRAMES. On a pulse without loss the watch's counts and
timer start over, a staged level becomes the profile's audio level and the audio target, a staged map the input map, and
the sampler closes its frame. A stall count that has then reached a stall limit other than 0 is a stall: the count becomes
0 and a STALL notice is queued; under NOTIFY the output goes on showing; under RESTART it is HOLDING in its RESTART form,
for the rest time, warm-up time and recovery window, with the restart entry placed and an OUTPUT notice of cause
STALL_RESTART (R76, R77, R78, R155, R156, R157). -/
def Obligations.WatchComparesFrames : Prop :=
  ∀ (s : State) (i : SlotNo) (su : Setup) (p : ProbeRecord) (a b : Nat) (d : Derived) (coincident : Bool),
    s.out.mode = .showing → s.out.source = some i → s.out.sourceProbe = some p → p.countA = some a → p.countB = some b →
    p.derived = some d → (s.slot i).setup = some su →
      let ended := if coincident then s.out.watch.lineCount - 1 else s.out.watch.lineCount
      let opened := if coincident then 1 else 0
      let regular := linesAway ended (nearerCount d.interlaced a b ended) ≤ 8
      let irregular := if regular then 0 else s.out.watch.irregular + 1
      let t := s.watchFrame i coincident
      let prof := su.profile
      let stored : Setup :=
        { profile := { prof with audioLevel := s.out.stagedLevel.getD prof.audioLevel }
          map := s.out.stagedMap.getD su.map }
      let count : Nat :=
        if s.sampler.prev = none then s.sampler.stall
        else if s.sampler.prev = some s.sampler.running then min 65535 (s.sampler.stall + 1)
        else 0
      let shown : Output :=
        { s.out with
          watch := { lineCount := opened, irregular := irregular, timer := some (s.now + 4800000) }
          stagedLevel := none, stagedMap := none, target := s.out.stagedLevel.getD s.out.target }
      let next (stall : Nat) : Sampler :=
        { s.sampler with
          running := 0xFFFF, prev := some s.sampler.running, line := if coincident then some 0 else none, lineAt := s.now
          point := 0, stall := stall }
      let restart : Entry :=
        { kind := .restart, steps := [.powerOff, .powerOn, .probe], done := 0, waiver := true, marked := false }
      let stalled (policy : Byte) : State :=
        s.notice .stall (byteOf i.val :: natBytes 2 s.sampler.running.toNat ++ natBytes 2 prof.stallLimit ++ [policy])
      (8 ≤ irregular →
        t.out = { s.out with
          mode := .holding, sync := .bridge, blanked := true, gain := 63, target := 63, current := s.out.timing
          frameStart := s.now, watch := { lineCount := opened, irregular := irregular, timer := none }
          hold := { Hold.none with
            timer := some (s.now + prof.recovery * 48000), form := some .loss, probing := true, awaitReady := false } } ∧
        t.slots = s.slots ∧ t.queues = s.queues ∧
        t.sampler = { s.sampler with sampling := false, line := none, point := 0 } ∧
        t.link = (s.notice .output [3, byteOf i.val, 8, 1, s.out.classOut.code, 1]).link) ∧
      (irregular < 8 →
        t.slot i = { s.slot i with setup := some stored, restartUnderWay := (t.slot i).restartUnderWay } ∧
        (∀ j, j ≠ i → t.slot j = s.slot j) ∧
        (prof.stallLimit = 0 ∨ count < prof.stallLimit →
          t.out = shown ∧ t.sampler = next count ∧ t.link = s.link ∧ t.queues = s.queues ∧ t.todo = s.todo ∧
          (t.slot i).restartUnderWay = (s.slot i).restartUnderWay) ∧
        (prof.stallLimit ≠ 0 → prof.stallLimit ≤ count → prof.stallPolicy = .notify →
          t.out = shown ∧ t.sampler = next 0 ∧ t.link = (stalled 0).link ∧ t.queues = s.queues ∧ t.todo = s.todo ∧
          (t.slot i).restartUnderWay = (s.slot i).restartUnderWay) ∧
        (prof.stallLimit ≠ 0 → prof.stallLimit ≤ count → prof.stallPolicy = .restart →
          t.out = { shown with
            mode := .holding, sync := .bridge, blanked := true, gain := 63, target := 63, current := s.out.timing
            frameStart := s.now, watch := { lineCount := opened, irregular := irregular, timer := none }
            hold := { Hold.none with
              timer := some (s.now + (prof.rest + prof.warmUp + prof.recovery) * 48000), form := some .restart
              probing := false, awaitReady := true, stalledAt := some s.now } } ∧
          t.sampler = { s.sampler with
            sampling := false, prev := some s.sampler.running, stall := 0, line := none, point := 0 } ∧
          t.link = ((stalled 1).notice .output [3, byteOf i.val, 8, 1, s.out.classOut.code, 3]).link ∧
          (t.slot i).restartUnderWay = true ∧
          t.queue i = { s.queue i with out := some restart } ∧
          (∀ j, j ≠ i → t.queue j = s.queue j) ∧ t.todo = .turn i :: s.todo))

/-- FRAME_PULSE of a slot that no engine measures, an edge to the pulse level of at least 401 ticks: the tap keeps its
tick, and the watch takes it from the showing slot, the changeover's ALIGN and SETTLE from its target, and BRIDGE from the
outgoing slot, at whose pulse the bridge becomes the sync source (R42, R77, R94, R101, R103). In HOLDING, while the Output
Path probes and has no request present, a pulse of the held slot in ACTIVE or READY places the OUTPUT request: a FREE
engine begins its probe at once, and with none FREE it goes to the head of the list. In any other state of that slot it
waits (R81, R159; log 14). That engine 0 takes the request when both are FREE, and that the pulse that placed it is not
its probe's first, is the model's choice (log 13; R48 leaves the engine open, R50 the pulse). The rejoin's ALIGN and SETTLE take the held slot's pulses as a changeover's do from its target:
the cut, the settle frames with the 100 ms timer, and at the last of them SHOWING again with the slot ACTIVE, staged items
stored, the audio target its level, and the watch and the sampler started; a line pulse of the frame pulse's tick belongs to
the frame that opens (log 3), and an interlaced board is compared with the nearer of its two counts (R52, R82, R83, R84,
R101). LINE_PULSE, an edge to the
pulse level: of the showing slot the watch counts it, up to 2,047, and the sampler opens the next line of its frame; in
ALIGN, of a changeover or a rejoin, it counts once the first counted frame has opened; in the rest of HOLDING only the tap
keeps it (R77, R83, R101, R153). -/
def Obligations.PulsesReachOutput : Prop :=
  (∀ (dt : Nat) (i : SlotNo) (width : Nat) (s : State), s.Between → s.engineOn 0 i = false → s.engineOn 1 i = false →
     401 ≤ width →
     let u := s.advance dt
     let frame : Instr := .framePulse dt { slot := i, high := (s.tap i).framePulseHigh, width := width }
     let coincident := decide ((s.tap i).lastLine = some u.now)
     let tapped : State := u.modTap i fun t => { t with frameHigh := t.framePulseHigh, lastFrame := some u.now }
     (s.out.mode = .showing → s.out.source = some i → exec frame s = .next (tapped.watchFrame i coincident).finish) ∧
     (s.out.mode = .showing ∨ s.out.mode = .holding → s.out.source ≠ some i → exec frame s = .next tapped.beginMessage) ∧
     (∀ c, s.out.mode = .changing → s.chg = some c →
       (c.stage = .align → c.toSlot = some i → exec frame s = .next (tapped.changeAlign i coincident).finish) ∧
       (c.stage = .settle → c.toSlot = some i → exec frame s = .next (tapped.changeSettle i).finish) ∧
       (c.stage = .bridge → s.out.sync = .slot i →
         exec frame s = .next
           (State.push { tapped with out := { s.out with
             sync := .bridge, blanked := true, current := s.out.timing, frameStart := u.now } } [.bridgeEnd]).finish) ∧
       (c.stage = .fade ∨ c.stage = .prepare ∨ c.stage = .reclass → exec frame s = .next tapped.beginMessage)) ∧
     (s.out.mode = .holding → s.out.source = some i →
       (s.out.hold.rejoin = some .align → exec frame s = .next (tapped.rejoinAlign i coincident).finish) ∧
       (s.out.hold.rejoin = some .settle → exec frame s = .next (tapped.rejoinSettle i).finish) ∧
       (s.out.hold.rejoin = none →
         let measurable := (s.slot i).state = .active ∨ (s.slot i).state = .ready
         let request : ProbeRequest := { kind := .output, slot := i }
         (s.out.hold.probing = false ∨ s.outputRequest = true ∨ ¬ measurable →
           exec frame s = .next tapped.beginMessage) ∧
         (s.out.hold.probing = true → s.outputRequest = false → measurable →
           (s.engine 0 ≠ none → s.engine 1 ≠ none →
             exec frame s = .next (State.beginMessage { tapped with probeList := request :: s.probeList })) ∧
           ∀ k : EngineNo, s.engine k = none → (k = 0 ∨ s.engine 0 ≠ none) → s.probeList = [] →
             exec frame s = .next (tapped.setEngine k (some
               { req := request, phase := .awaitFirst, watchFrom := u.now, firstAt := none, line := .notStarted
                 countA := none, countB := none, opening := false, released := false })).beginMessage)))) ∧
  (∀ (s : State) (i : SlotNo) (p : ProbeRecord) (a b : Nat) (d : Derived) (su : Setup) (coincident : Bool),
     s.out.source = some i → s.out.sourceProbe = some p → p.countA = some a → p.countB = some b → p.derived = some d →
     (s.slot i).setup = some su →
     let h := s.out.hold
     let ended := if coincident then h.cut.alignCount - 1 else h.cut.alignCount
     let fits := linesAway ended (nearerCount d.interlaced a b ended) ≤ 8
     let frames := su.profile.settleFrames
     let level := s.out.stagedLevel.getD su.profile.audioLevel
     (h.cut.opened = false ∨ ¬ fits →
       s.rejoinAlign i coincident =
         { s with out := { s.out with hold := { h with cut := { h.cut with
             opened := true, alignCount := if coincident then 1 else 0 } } } }) ∧
     (h.cut.opened = true → fits → frames ≠ 0 →
       s.rejoinAlign i coincident =
         { s with out := { s.out with
           sync := .slot i
           hold := { h with
             rejoin := some .settle
             cut := { opened := false, alignCount := 0, settleCount := 0, settleFrames := frames
                      timer := some (s.now + 4800000) } } } }) ∧
     (h.cut.settleCount + 1 < h.cut.settleFrames →
       s.rejoinSettle i =
         { s with out := { s.out with hold := { h with cut := { h.cut with
             settleCount := h.cut.settleCount + 1, timer := some (s.now + 4800000) } } } }) ∧
     (h.cut.settleFrames ≤ h.cut.settleCount + 1 → (s.slot i).state = .active ∨ (s.slot i).state = .ready →
       let t := s.rejoinSettle i
       t.out =
         { s.out with
           mode := .showing, blanked := false, target := level, stagedLevel := none, stagedMap := none, hold := Hold.none
           watch := { lineCount := if (s.tap i).lastLine = some s.now then 1 else 0, irregular := 0
                      timer := some (s.now + 4800000) } } ∧
       t.slot i = { s.slot i with
         state := .active
         setup := some { profile := { su.profile with audioLevel := level }, map := s.out.stagedMap.getD su.map } } ∧
       (∀ j, j ≠ i → t.slot j = s.slot j) ∧ t.sampler.sampling = true ∧ t.sampler.stall = 0 ∧ t.sampler.prev = none ∧
       t.sampler.running = 0xFFFF ∧ t.coin = s.coin ∧ t.queues = s.queues ∧ t.supply = s.supply ∧ t.chg = s.chg ∧
       t.todo = .payout :: s.todo)) ∧
  ∀ (dt : Nat) (i : SlotNo) (opens : Bool) (s : State), s.Between → s.engineOn 0 i = false → s.engineOn 1 i = false →
    let u := s.advance dt
    let line : Instr := .linePulse dt { slot := i, high := (s.tap i).linePulseHigh, opens := opens }
    let tapped : State := u.modTap i fun t => { t with lineHigh := t.linePulseHigh, lastLine := some u.now }
    let counted (c : Cut) : Cut :=
      { c with alignCount := if c.opened then min 2047 (c.alignCount + 1) else c.alignCount }
    (s.out.mode = .showing → s.out.source = some i → s.sampler.sampling = true →
      exec line s = .next
        (State.beginMessage { tapped with
          out := { s.out with watch := { s.out.watch with lineCount := min 2047 (s.out.watch.lineCount + 1) } }
          sampler := { s.sampler with line := some (match s.sampler.line with | none => 0 | some n => n + 1)
                                      lineAt := u.now, point := 0 } })) ∧
    (s.out.mode = .holding → s.out.source = some i →
      (s.out.hold.rejoin = some .align →
        exec line s = .next
          (State.beginMessage { tapped with out := { s.out with hold := { s.out.hold with
              cut := counted s.out.hold.cut } } })) ∧
      (s.out.hold.rejoin ≠ some .align → exec line s = .next tapped.beginMessage)) ∧
    (s.out.mode = .showing ∨ s.out.mode = .holding → s.out.source ≠ some i → exec line s = .next tapped.beginMessage) ∧
    ∀ c, s.out.mode = .changing → s.chg = some c → c.stage = .align → c.toSlot = some i →
      exec line s = .next (State.beginMessage { tapped with chg := some { c with cut := counted c.cut } })

/-- GRID_POINT_SAMPLE: on a sampled line with points left, the sample of value 4 for red, 2 for green and 1 for blue is
folded into the running signature and the next point is due; elsewhere only time passes, the model's choice (log 2). The
example of the rule runs from FFFFh over samples 0, 7 and 4 to 8F15h (R153, R154). The close of a frame: without a previous signature no
comparison, with an equal one the stall count rises up to 65,535, with another it becomes 0; the running signature
becomes the previous one (R155). -/
def Obligations.SamplesFoldAndFramesClose : Prop :=
  ((∀ (dt : Nat) (red green blue : Bool) (s : State), s.Between →
     let u := s.advance dt
     let sig := s.sampler.running
     let value : Half := (if red then 4 else 0) + (if green then 2 else 0) + (if blue then 1 else 0)
     let folded : Half := (if sig.msb then (sig <<< 1) ^^^ 0x1021 else sig <<< 1) ^^^ value
     (∀ n p d, s.sampler.sampling = true → s.sampler.line = some n → (∃ k, k ≤ 31 ∧ n = 24 + 6 * k) → s.sampler.point < 64 →
       s.out.sourceProbe = some p → p.derived = some d →
       exec (.gridPointSample dt red green blue) s = .next
         (State.beginMessage { u with
           now := max u.now (s.sampler.lineAt + (d.lineTicks / 6 + s.sampler.point * (d.lineTicks / 96)))
           sampler := { s.sampler with running := folded, point := s.sampler.point + 1 } })) ∧
     (s.sampler.sampling = false ∨ s.sampler.line = none ∨ 64 ≤ s.sampler.point ∨
         (∃ n, s.sampler.line = some n ∧ ∀ k, k ≤ 31 → n ≠ 24 + 6 * k) →
       exec (.gridPointSample dt red green blue) s = .next u.beginMessage)) ∧
   foldSignature (foldSignature (foldSignature 0xFFFF 0) 7) 4 = 0x8F15) ∧
  ∀ x : Sampler,
    (x.close).prev = some x.running ∧ (x.close).sampling = x.sampling ∧ (x.close).running = x.running ∧
    (x.prev = none → (x.close).stall = x.stall) ∧
    (x.prev = some x.running → (x.close).stall = min 65535 (x.stall + 1)) ∧
    (∀ p, x.prev = some p → p ≠ x.running → (x.close).stall = 0)

/-! ## Changeover (R88 to R114) -/

/-- SELECT: BAD_SLOT for a byte above 8; then NOT_CONFIGURED for an UNCONFIGURED slot, BAD_VALUE for tag 0, and ALREADY for the
slot shown or held, for the present target or pending reselect, and for NONE in DARK. None of these changes anything but the
transmit queue (R89). -/
def Obligations.SelectChecksInOrder : Prop :=
  ∀ (dt : Nat) (tag slot : Byte) (s : State), s.TakesRequests →
    let u := s.received dt
    (8 < slot.toNat → exec (.select dt tag slot) s = .next (u.replied 0x0C tag [2, 3])) ∧
    ∀ sel : Option SlotNo, (slot = 8 ∧ sel = none ∨ ∃ i : SlotNo, i.val = slot.toNat ∧ sel = some i) →
      let unconfigured := ∃ i, sel = some i ∧ (s.slot i).state = .unconfigured
      let already :=
        s.out.mode = .dark ∧ sel = none ∨
        (s.out.mode = .showing ∨ s.out.mode = .holding) ∧ sel ≠ none ∧ s.out.source = sel ∨
        s.out.mode = .changing ∧ ∃ c, s.chg = some c ∧ (c.toSlot = sel ∨ ∃ r, c.reselect = some r ∧ r.slot = sel)
      (unconfigured → exec (.select dt tag slot) s = .next (u.replied 0x0C tag [2, 5])) ∧
      (¬ unconfigured → tag = 0 → exec (.select dt tag slot) s = .next (u.replied 0x0C tag [2, 4])) ∧
      (¬ unconfigured → tag ≠ 0 → already → exec (.select dt tag slot) s = .next (u.replied 0x0C tag [3]))

/-- A SELECT accepted in SHOWING, or in the LOSS form of HOLDING, with the sound not yet muted or a coin pulse in flight:
a changeover from the source slot begins in FADE, the output is CHANGING without a source, the audio target is 63, the
watch and the sampler stop, staged items are stored, the outgoing slot becomes READY (from HOLDING: FAULT, SYNC_LOST), the
target loses its shed-pending flag, and no other slot, no queue, no permit and no coin record changes (R89, R90, R91,
R92). A SELECT of a slot accepted in DARK with the sound muted and no pulse in flight passes FADE and BRIDGE at once. A
READY target with a last probe that the monitor accepts enters RECLASS: the bridge is programmed from the probe, and a
class that differs is set with its settle deadline (in place of one that stands, a later one too: the model's choice,
log 40); one the monitor rejects leaves the output DARK. Any other target, with
an entry already running in its queue, enters PREPARE with the prepare timer started and a prepare entry waiting, with the
steps of R37's table; a target in TESTING has those of its test return state, and none where that is READY with a last
probe, an entry without a step behind the test being the model's choice (log 15). The 0 that the record's prepare timeout
and class settle hold before PREPARE and RECLASS read them is the model's choice (log 33) (R90, R93, R94, R96, R97, R99,
R100, R37, R73). -/
def Obligations.SelectStartsChangeover : Prop :=
  (∀ (dt : Nat) (tag slot : Byte) (sel : Option SlotNo) (i : SlotNo) (su : Setup) (s : State), s.TakesRequests →
     s.OutputLawful → (slot = 8 ∧ sel = none ∨ ∃ j : SlotNo, j.val = slot.toNat ∧ sel = some j) → tag ≠ 0 →
     (∀ j, sel = some j → (s.slot j).state ≠ .unconfigured) → s.out.source = some i → sel ≠ some i →
     (s.slot i).setup = some su → s.out.gain ≠ 63 ∨ s.coin.pulse ≠ none →
     let u := s.received dt
     let stored : Setup :=
       { profile := { su.profile with audioLevel := s.out.stagedLevel.getD su.profile.audioLevel }
         map := s.out.stagedMap.getD su.map }
     let left : Slot := { s.slot i with setup := some stored }
     let begun (t : State) : Prop :=
       t.chg = some
         { fromSlot := some i, toSlot := sel, tag := tag, stage := .fade, cut := Cut.none, timeout := 0, prepareTimer := none
           settle := 0, targetProbe := none, starts := none, reselect := none } ∧
       t.out.mode = .changing ∧ t.out.source = none ∧ t.out.sourceProbe = none ∧ t.out.gain = s.out.gain ∧ t.out.target = 63 ∧
       t.out.stagedLevel = none ∧ t.out.stagedMap = none ∧ t.out.watch = { s.out.watch with timer := none } ∧
       t.out.hold = Hold.none ∧ t.out.classOut = s.out.classOut ∧ t.out.timing = s.out.timing ∧
       (∀ j, sel = some j → t.slot j = { s.slot j with shedPending := false }) ∧
       (∀ j, j ≠ i → sel ≠ some j → t.slot j = s.slot j) ∧ t.queues = s.queues ∧ t.supply = s.supply ∧ t.coin = s.coin ∧
       t.sampler = { s.sampler with sampling := false, line := none, point := 0 }
     (s.out.mode = .showing → (s.slot i).state = .active →
       ∃ t : State, exec (.select dt tag slot) s = .next t ∧ begun t ∧ t.slot i = { left with state := .ready } ∧
         t.out.sync = s.out.sync ∧ t.out.blanked = s.out.blanked) ∧
     (s.out.mode = .holding → s.out.hold.form = some .loss →
       ∃ t : State, exec (.select dt tag slot) s = .next t ∧ begun t ∧
         t.slot i = { left with state := .fault, lastFault := some .syncLost } ∧ t.out.sync = .bridge ∧
         t.out.blanked = true ∧ (s.out.sync ≠ .bridge → t.out.frameStart = u.now))) ∧
  ∀ (dt : Nat) (tag slot : Byte) (j : SlotNo) (s : State), s.TakesRequests → s.OutputLawful → j.val = slot.toNat → tag ≠ 0 →
    (s.slot j).state ≠ .unconfigured → s.out.mode = .dark → s.out.sync = .bridge → s.out.gain = 63 → s.coin.pulse = none →
    (s.queue j).out = none →
    let u := s.received dt
    let q := s.queue j
    let change (stage : Stage) : Change :=
      { fromSlot := none, toSlot := some j, tag := tag, stage := stage, cut := Cut.none, timeout := s.settings.timeout
        prepareTimer := none, settle := 0, targetProbe := none, starts := none, reselect := none }
    (∀ p d, (s.slot j).state = .ready →
      (s.slot j).lastProbe = some p → p.derived = some d →
      ((s.settings.accepts d.cls = true ∧ s.settings.windowLow ≤ d.frameRate ∧ d.frameRate ≤ s.settings.windowHigh) →
        ∃ t : State, exec (.select dt tag slot) s = .next t ∧
          t.chg = some { change .reclass with
            targetProbe := some p, settle := s.settings.settle, starts := if d.cls = s.out.classOut then some 0 else none } ∧
          t.out.mode = .changing ∧ t.out.timing = { ticks := d.lineTicks, lines := d.frameLines } ∧
          t.out.classOut = d.cls ∧ t.out.sync = .bridge ∧ t.out.current = s.out.current ∧
          t.classDeadline = (if d.cls = s.out.classOut then s.classDeadline else u.now + s.settings.settle * 48000) ∧
          t.slot j = { s.slot j with shedPending := false } ∧ (∀ i, i ≠ j → t.slot i = s.slot i) ∧ t.queues = s.queues) ∧
      (¬ (s.settings.accepts d.cls = true ∧ s.settings.windowLow ≤ d.frameRate ∧ d.frameRate ≤ s.settings.windowHigh) →
        q.running ≠ none →
        ∃ t : State, exec (.select dt tag slot) s = .next t ∧ t.chg = none ∧ t.out.mode = .dark ∧
          t.out.timing = s.out.timing ∧ t.out.classOut = s.out.classOut ∧ t.classDeadline = s.classDeadline ∧
          t.slot j = { s.slot j with shedPending := false } ∧ (∀ i, i ≠ j → t.slot i = s.slot i) ∧ t.queues = s.queues)) ∧
    ((s.slot j).state ≠ .ready → q.running ≠ none →
      ∃ t : State, exec (.select dt tag slot) s = .next t ∧
        t.chg = some { change .prepare with prepareTimer := some (u.now + s.settings.timeout * 48000000) } ∧
        t.out.mode = .changing ∧ t.out.timing = s.out.timing ∧ t.out.classOut = s.out.classOut ∧
        t.slot j = { s.slot j with shedPending := false } ∧ (∀ i, i ≠ j → t.slot i = s.slot i ∧ t.queue i = s.queue i) ∧
        ∃ steps : List WorkStep,
          t.queue j = { q with out := some { kind := .prepare, steps := steps, done := 0, waiver := false, marked := false } } ∧
          (s.slot j).PreparedBy steps)

/-- A SELECT accepted during a changeover. In ALIGN and SETTLE it becomes the pending reselect, one that stood there
completes SUPERSEDED, and nothing else changes. In FADE and BRIDGE the record takes the new target and tag, the replaced
SELECT completes SUPERSEDED, the new target loses its shed-pending flag, and the stage goes on; the old target has no work
and no shed pending. In PREPARE and RECLASS the old target's running prepare entry is marked for removal, and PREPARE
begins afresh for the new target, with the prepare timer started and a prepare entry behind the work that runs there; a
READY target with a last probe that the monitor accepts passes on to RECLASS; a SELECT of NONE ends the changeover in DARK
with DONE (R110, R111, R112, R37, R96). The end of a prepare entry's last step, or of a failing one, or of any step of a
marked entry: the entry leaves its place, and unless it is marked its outcome goes to the changeover; an entry placed
without a step ends OK at its turn when the slot is READY with a last probe (R32, R37, R38; that such an entry is placed
is the model's choice, log 15). That outcome in PREPARE: OK copies the last probe and begins RECLASS, or fails with
MONITOR_REJECTS; any other result fails with PREPARE_FAILED and that result; in another stage, or of another slot, it does
nothing (R97, R99, R100, R109). A class change in RECLASS sets the settle deadline in place of one that stands, a later one
too, which is the model's choice (log 40). A target out of READY in RECLASS, ALIGN or SETTLE returns the changeover to PREPARE, with
the bridge as sync source and a prepare entry for its state; a pending reselect becomes the target there in its place, or
ends the changeover in DARK (R106). -/
def Obligations.SelectRetargetsOrReselects : Prop :=
  (∀ (dt : Nat) (tag slot : Byte) (sel : Option SlotNo) (c : Change) (s : State), s.TakesRequests →
    (slot = 8 ∧ sel = none ∨ ∃ j : SlotNo, j.val = slot.toNat ∧ sel = some j) → tag ≠ 0 →
    (∀ j, sel = some j → (s.slot j).state ≠ .unconfigured) → s.out.mode = .changing → s.chg = some c → c.toSlot ≠ sel →
    (∀ r, c.reselect = some r → r.slot ≠ sel) →
    let u := s.received dt
    let accepted := u.reply 0x0C tag [1]
    let superseded := accepted.complete c.tag (selectCompletion c.toSlot .superseded .ok)
    (c.stage = .align ∨ c.stage = .settle →
      (c.reselect = none →
        exec (.select dt tag slot) s = .next
          (State.beginMessage { accepted with chg := some { c with reselect := some { slot := sel, tag := tag } } })) ∧
      (∀ r, c.reselect = some r →
        exec (.select dt tag slot) s = .next
          (State.beginMessage { accepted.complete r.tag (selectCompletion r.slot .superseded .ok) with
            chg := some { c with reselect := some { slot := sel, tag := tag } } }))) ∧
    (c.stage = .fade ∨ c.stage = .bridge →
      (∀ k, c.toSlot = some k → s.queue k = { ctrl := [], out := none, running := none, pauseEnd := none } ∧
        (s.slot k).shedPending = false) →
      ∃ t : State, exec (.select dt tag slot) s = .next t ∧
        t.chg = some { c with toSlot := sel, tag := tag, targetProbe := none } ∧ t.out = s.out ∧
        (∀ j, sel = some j → t.slot j = { s.slot j with shedPending := false }) ∧
        (∀ j, sel ≠ some j → t.slot j = s.slot j) ∧ t.queues = s.queues ∧ t.supply = s.supply ∧ t.coin = s.coin ∧
        t.link = superseded.beginMessage.link) ∧
    (c.stage = .prepare ∨ c.stage = .reclass → s.out.source = none →
      (∀ k, c.toSlot = some k → (s.slot k).shedPending = false ∧
        ((s.queue k).ctrl = [] ∧ (s.queue k).out = none ∧ (s.queue k).running = none ∨
          ∃ e, (s.queue k).out = some e ∧ e.kind = .prepare ∧ (s.queue k).running = some .output)) →
      let left (k : SlotNo) : Queue :=
        if c.toSlot = some k then { s.queue k with out := (s.queue k).out.map fun e => { e with marked := true } }
        else s.queue k
      (sel = none →
        ∃ t : State, exec (.select dt tag slot) s = .next t.beginMessage ∧ t.chg = none ∧ t.out = s.out.inDark u.now ∧
          t.sampler = { s.sampler with sampling := false, line := none, point := 0 } ∧ (∀ k, t.queue k = left k) ∧
          t.slots = s.slots ∧ t.supply = s.supply ∧ t.coin = s.coin ∧ t.classDeadline = s.classDeadline ∧
          t.link = ((superseded.notice .output [0, 0xFF, 8, 1, s.out.classOut.code, 0]).complete tag
            (selectCompletion none .ok .ok)).link) ∧
      ∀ j, sel = some j → (s.queue j).out = none →
        let afresh : Change :=
          { c with
            toSlot := some j, tag := tag, stage := .prepare, cut := Cut.none, timeout := s.settings.timeout
            targetProbe := none, starts := none, prepareTimer := some (u.now + s.settings.timeout * 48000000) }
        let retargets (t : State) : Prop :=
          t.slot j = { s.slot j with shedPending := false } ∧ (∀ k, k ≠ j → t.slot k = s.slot k ∧ t.queue k = left k) ∧
          t.supply = s.supply ∧ t.coin = s.coin ∧ t.link = superseded.link
        ((s.slot j).state ≠ .ready → (s.queue j).running ≠ none →
          ∃ t : State, exec (.select dt tag slot) s = .next t.beginMessage ∧ retargets t ∧ t.chg = some afresh ∧
            t.out = s.out ∧ t.classDeadline = s.classDeadline ∧
            ∃ steps : List WorkStep, (s.slot j).PreparedBy steps ∧
              t.queue j = { s.queue j with
                out := some { kind := .prepare, steps := steps, done := 0, waiver := false, marked := false } }) ∧
        (∀ p d, (s.slot j).state = .ready → (s.slot j).lastProbe = some p → p.derived = some d →
          s.settings.accepts d.cls = true → s.settings.windowLow ≤ d.frameRate → d.frameRate ≤ s.settings.windowHigh →
          ∃ t : State, exec (.select dt tag slot) s = .next t.beginMessage ∧ retargets t ∧
            t.chg = some { afresh with
              stage := .reclass, prepareTimer := none, targetProbe := some p, settle := s.settings.settle
              starts := if d.cls = s.out.classOut then some 0 else none } ∧
            t.out = { s.out with timing := { ticks := d.lineTicks, lines := d.frameLines }, classOut := d.cls } ∧
            t.classDeadline =
              (if d.cls = s.out.classOut then s.classDeadline else u.now + s.settings.settle * 48000) ∧
            t.queue j = s.queue j))) ∧
  (∀ (s : State) (i : SlotNo) (e : Entry) (r : Result) (p : Option ProbeRecord), (s.queue i).out = some e →
    (s.queue i).running = some .output → e.kind = .prepare →
    let ended (r : Result) : State :=
      (s.modQueue i fun q => { q with out := none, running := none, pauseEnd := none }).push
        (if e.marked then [.turn i] else [.prepareOutcome i r, .turn i])
    (r ≠ .ok ∨ e.marked = true ∨ e.steps.length ≤ e.done + 1 → s.stepEnds i r p = ended r) ∧
    (e.steps = [] → (s.slot i).state = .ready → (s.slot i).lastProbe ≠ none → s.beginStep i = ended .ok)) ∧
  (∀ (s : State) (c : Change) (i : SlotNo), s.chg = some c →
    let fails (reason step : Result) : State :=
      ((State.notice
        { s with
          chg := none, out := s.out.inDark s.now
          sampler := { s.sampler with sampling := false, line := none, point := 0 } }
        .output [0, 0xFF, 8, 1, s.out.classOut.code, 0]).complete c.tag (selectCompletion (some i) reason step)).push
          [.turn i, .shed i]
    (∀ r, c.stage ≠ .prepare ∨ c.toSlot ≠ some i → s.prepareOutcome i r = s) ∧
    (c.stage = .prepare → c.toSlot = some i → c.reselect = none → s.out.source = none → (s.queue i).out = none →
      (∀ r, r ≠ .ok → s.prepareOutcome i r = fails .prepareFailed r) ∧
      ∀ p d, (s.slot i).lastProbe = some p → p.derived = some d →
        let accepted := s.settings.accepts d.cls = true ∧ s.settings.windowLow ≤ d.frameRate ∧
          d.frameRate ≤ s.settings.windowHigh
        (accepted →
          s.prepareOutcome i .ok =
            { s with
              chg := some { c with
                stage := .reclass, prepareTimer := none, targetProbe := some p, settle := s.settings.settle
                starts := if d.cls = s.out.classOut then some 0 else none }
              out := { s.out with timing := { ticks := d.lineTicks, lines := d.frameLines }, classOut := d.cls }
              classDeadline :=
                if d.cls = s.out.classOut then s.classDeadline else s.now + s.settings.settle * 48000 }) ∧
        (¬ accepted → s.prepareOutcome i .ok = fails .monitorRejects .ok))) ∧
  ∀ (s : State) (c : Change) (i : SlotNo), s.chg = some c → c.toSlot = some i →
    let late := c.stage = .reclass ∨ c.stage = .align ∨ c.stage = .settle
    let again (target : SlotNo) (tag : Byte) : Change :=
      { c with
        toSlot := some target, tag := tag, stage := .prepare, cut := Cut.none, timeout := s.settings.timeout
        targetProbe := none, starts := none, prepareTimer := some (s.now + s.settings.timeout * 48000000)
        reselect := none }
    let bridged : Output :=
      if s.out.sync = .bridge then s.out
      else { s.out with sync := .bridge, blanked := true, current := s.out.timing, frameStart := s.now }
    let placed (t : State) (j : SlotNo) (steps : List WorkStep) : State :=
      t.modQueue j fun q =>
        { q with out := some { kind := .prepare, steps := steps, done := 0, waiver := false, marked := false } }
    let superseded := s.complete c.tag (selectCompletion (some i) .superseded .ok)
    (¬ late ∨ (s.slot i).state = .ready → s.targetCheck = s) ∧
    (late → (s.slot i).state ≠ .ready → (s.queue i).out = none →
      (c.reselect = none →
        ∃ steps : List WorkStep, (s.slot i).PreparedBy steps ∧
          s.targetCheck = State.push (placed { s with out := bridged, chg := some (again i c.tag) } i steps) [.turn i]) ∧
      (∀ tag, c.reselect = some { slot := none, tag := tag } → s.out.source = none →
        s.targetCheck =
          ((State.notice
            { superseded with
              chg := none, out := s.out.inDark s.now
              sampler := { s.sampler with sampling := false, line := none, point := 0 } }
            .output [0, 0xFF, 8, 1, s.out.classOut.code, 0]).complete tag (selectCompletion none .ok .ok)).push
              [.turn i, .shed i]) ∧
      ∀ tag j, c.reselect = some { slot := some j, tag := tag } → (s.slot j).state ≠ .ready → (s.queue j).out = none →
        ∃ steps : List WorkStep, (s.slot j).PreparedBy steps ∧
          s.targetCheck =
            State.push
              (placed (State.modSlot { superseded with out := bridged, chg := some (again j tag) } j fun sl =>
                { sl with shedPending := false }) j steps) [.turn i, .shed i, .turn j])

/-- CANCEL: NOT_ALLOWED outside a changeover; TOO_LATE in ALIGN and SETTLE, where a pending reselect is removed and completes
CANCELLED; in FADE, BRIDGE, PREPARE and RECLASS, with no reselect pending and no shed of the target pending, the changeover
ends in DARK with an OUTPUT notice and its SELECT completes CANCELLED, after the DONE reply. The target's queue may be
empty; or its prepare entry may wait behind a running controller entry, and is removed at once; or the prepare entry may
run, and is marked for removal, its running step going on (R38, R109, R114). That the reply stands before the OUTPUT notice is the model's reading (log 27). -/
def Obligations.CancelByStage : Prop :=
  ∀ (dt : Nat) (tag : Byte) (s : State), s.TakesRequests →
    let u := s.received dt
    (s.chg = none → exec (.cancel dt tag) s = .next (u.replied 0x0D tag [2, 8])) ∧
    ∀ c, s.chg = some c →
      (c.stage = .align ∨ c.stage = .settle →
        (c.reselect = none → exec (.cancel dt tag) s = .next (u.replied 0x0D tag [4])) ∧
        (∀ r, c.reselect = some r →
          exec (.cancel dt tag) s = .next
            (State.beginMessage { (u.reply 0x0D tag [4]).complete r.tag (selectCompletion r.slot .cancelled .ok) with
              chg := some { c with reselect := none } }))) ∧
      (c.stage ≠ .align → c.stage ≠ .settle → c.reselect = none → s.out.source = none →
        (∀ k, c.toSlot = some k → (s.slot k).shedPending = false) →
        let cancelled : State :=
          (State.notice
            { u.reply 0x0D tag [0] with
              chg := none, out := s.out.inDark u.now
              sampler := { s.sampler with sampling := false, line := none, point := 0 } }
            .output [0, 0xFF, 8, 1, s.out.classOut.code, 0]).complete c.tag (selectCompletion c.toSlot .cancelled .ok)
        ((∀ k, c.toSlot = some k → s.queue k = { ctrl := [], out := none, running := none, pauseEnd := none }) →
          exec (.cancel dt tag) s = .next cancelled.beginMessage) ∧
        ∀ k e, c.toSlot = some k → (s.queue k).out = some e → e.kind = .prepare →
          ((s.queue k).running = some .controller →
            exec (.cancel dt tag) s = .next (cancelled.modQueue k fun q => { q with out := none }).beginMessage) ∧
          ((s.queue k).running = some .output →
            exec (.cancel dt tag) s = .next
              (cancelled.modQueue k fun q => { q with out := some { e with marked := true } }).beginMessage))

/-- The four timers of a changeover. BRIDGE's mark makes the bridge the sync source, and a changeover to NONE then ends DONE in
DARK; the prepare timer's end fails the changeover with PREPARE_TIMEOUT and marks the running prepare entry; the marks of ALIGN
and SETTLE put the READY target in FAULT with ALIGN_TIMEOUT or SETTLE_LOST and end in DARK, the bridge taking over from the
target; in a rejoin they fall back to probing and fault nothing. No reselect is pending and the faulted target has neither
work nor shed. Without the timer of its stage running, each command only lets time pass (R83, R94, R95, R98, R102, R105, R109,
log 2). -/
def Obligations.ChangeoverTimersEnd : Prop :=
  ∀ (dt : Nat) (s : State), s.Between →
    let u := s.advance dt
    let stopped : Sampler := { s.sampler with sampling := false, line := none, point := 0 }
    ((∀ c, s.chg = some c → c.stage ≠ .bridge ∨ c.cut.timer = none) →
      exec (.bridgeStageTimerEnd dt) s = .next u.beginMessage) ∧
    ((∀ c, s.chg = some c → c.prepareTimer = none) → exec (.prepareTimeout dt) s = .next u.beginMessage) ∧
    ((∀ c, s.chg = some c → c.stage ≠ .align ∨ c.cut.timer = none) → s.out.hold.rejoin ≠ some .align →
      exec (.alignTimeout dt) s = .next u.beginMessage) ∧
    ((∀ c, s.chg = some c → c.stage ≠ .settle ∨ c.cut.timer = none) → s.out.hold.rejoin ≠ some .settle →
      exec (.settleFrameTimerEnd dt) s = .next u.beginMessage) ∧
    (∀ c tick, s.chg = some c → c.reselect = none → s.out.source = none →
      let now := max u.now tick
      (c.stage = .bridge → c.cut.timer = some tick → c.toSlot = none →
        exec (.bridgeStageTimerEnd dt) s = .next
          (State.beginMessage
            ((State.notice
              { u with now := now, chg := none, sampler := stopped
                       out := { s.out.inDark now with current := s.out.timing, frameStart := now } }
              .output [0, 0xFF, 8, 1, s.out.classOut.code, 0]).complete c.tag (selectCompletion none .ok .ok)))) ∧
      (∀ i e, c.prepareTimer = some tick → c.toSlot = some i → (s.queue i).out = some e → e.kind = .prepare →
        (s.queue i).running = some .output →
        exec (.prepareTimeout dt) s = .next
          (State.beginMessage
            ((State.notice
              { (s.modQueue i fun q => { q with out := some { e with marked := true } }) with
                now := now, chg := none, sampler := stopped, out := s.out.inDark now }
              .output [0, 0xFF, 8, 1, s.out.classOut.code, 0]).complete c.tag
                (selectCompletion (some i) .prepareTimeout .ok)))) ∧
      (∀ i, c.toSlot = some i → c.cut.timer = some tick → (s.slot i).shedPending = false →
        s.queue i = { ctrl := [], out := none, running := none, pauseEnd := none } →
        let failed (t : State) (reason : Result) : Prop :=
          t.now = now ∧ t.slot i = { s.slot i with state := .fault, lastFault := some reason } ∧
          (∀ j, j ≠ i → t.slot j = s.slot j) ∧ t.out = s.out.inDark now ∧ t.chg = none ∧ t.sampler = stopped ∧
          t.queues = s.queues ∧ t.supply = s.supply ∧ t.coin = s.coin ∧ t.classDeadline = s.classDeadline
        (c.stage = .align → ∃ t : State, exec (.alignTimeout dt) s = .next t.beginMessage ∧ failed t .alignTimeout) ∧
        (c.stage = .settle →
          ∃ t : State, exec (.settleFrameTimerEnd dt) s = .next t.beginMessage ∧ failed t .settleLost))) ∧
    ∀ tick, s.chg = none → s.out.hold.cut.timer = some tick →
      let now := max u.now tick
      let out : Output :=
        { s.out with
          sync := .bridge, blanked := s.out.blanked || decide (s.out.sync ≠ .bridge)
          current := if s.out.sync = .bridge then s.out.current else s.out.timing
          frameStart := if s.out.sync = .bridge then s.out.frameStart else now
          hold := { s.out.hold with rejoin := none, cut := Cut.none, probing := true } }
      (s.out.hold.rejoin = some .align →
        exec (.alignTimeout dt) s = .next (State.beginMessage { u with now := now, out := out })) ∧
      (s.out.hold.rejoin = some .settle →
        exec (.settleFrameTimerEnd dt) s = .next (State.beginMessage { u with now := now, out := out }))

/-- A frame pulse of the target in ALIGN and in SETTLE. A line pulse of the same tick taken before it belongs to the frame that
opens (R52; the order of the two is the sender's, log 3). In ALIGN the first pulse only opens the count; a counted frame within
8 lines of count A of the target probe, or of an interlaced board of the nearer of counts A and B, is the cut: the target becomes the sync source, still blanked, and SETTLE runs with its 100 ms timer; any other
opens the next count. In SETTLE each pulse counts and sets the timer back; the one that reaches the settle frames shows the
picture: SHOWING with the target as source slot and ACTIVE, the audio target its level, the watch and the sampler started, the
record removed. An outgoing slot with policy SHED and its power ON is marked shed-pending, and powered off at once when its
queue is empty and it is READY; any other slot stays as it is. The target is without a coin profile, and no reselect waits
(R19, R101, R103, R104). -/
def Obligations.AlignCutsAndSettleCompletes : Prop :=
  ∀ (s : State) (i : SlotNo) (c : Change) (p : ProbeRecord) (a b : Nat) (d : Derived) (su : Setup) (coincident : Bool),
    s.chg = some c → c.toSlot = some i → c.targetProbe = some p → p.countA = some a → p.countB = some b →
    p.derived = some d → (s.slot i).setup = some su →
      let ended := if coincident then c.cut.alignCount - 1 else c.cut.alignCount
      let fits := linesAway ended (nearerCount d.interlaced a b ended) ≤ 8
      (c.cut.opened = false ∨ ¬ fits →
        s.changeAlign i coincident =
          { s with chg := some { c with cut := { c.cut with
              opened := true, alignCount := if coincident then 1 else 0 } } }) ∧
      (c.cut.opened = true → fits → su.profile.settleFrames ≠ 0 →
        s.changeAlign i coincident =
          { s with
            out := { s.out with sync := .slot i }
            chg := some { c with
              stage := .settle
              cut := { opened := false, alignCount := 0, settleCount := 0, settleFrames := su.profile.settleFrames
                       timer := some (s.now + 4800000) } } }) ∧
      (c.cut.settleCount + 1 < c.cut.settleFrames →
        s.changeSettle i =
          { s with chg := some { c with cut := { c.cut with
              settleCount := c.cut.settleCount + 1, timer := some (s.now + 4800000) } } }) ∧
      (c.cut.settleFrames ≤ c.cut.settleCount + 1 → (s.slot i).state = .ready → su.profile.coin = none →
        c.reselect = none → s.out.sync = .slot i → (∀ k, c.fromSlot = some k → s.supply.permit ≠ some k) →
        let sheds (k : SlotNo) : Prop :=
          c.fromSlot = some k ∧ k ≠ i ∧ (s.slot k).power = true ∧
            ∃ ks, (s.slot k).setup = some ks ∧ ks.profile.policy = .shed
        let t := s.changeSettle i
        t.out =
          { s.out with
            mode := .showing, source := some i, sourceProbe := some p, blanked := false, target := su.profile.audioLevel
            watch := { lineCount := if (s.tap i).lastLine = some s.now then 1 else 0, irregular := 0
                       timer := some (s.now + 4800000) } } ∧
        t.slot i = { s.slot i with state := .active } ∧
        (∀ j, j ≠ i →
          (¬ sheds j → t.slot j = s.slot j) ∧
          (sheds j → (s.queue j).ctrl ≠ [] ∨ (s.queue j).out ≠ none →
            t.slot j = { s.slot j with shedPending := true }) ∧
          (sheds j → (s.queue j).ctrl = [] → (s.queue j).out = none → (s.slot j).state = .ready →
            ∀ ks, (s.slot j).setup = some ks →
            t.slot j = { s.slot j with
              power := false, state := .resting, lastProbe := none, shedPending := false, warm := none
              restWaiting := false, faultAtEnd := false, rest := some (s.now + ks.profile.rest * 48000) })) ∧
        t.chg = none ∧
        t.sampler.sampling = true ∧ t.sampler.stall = 0 ∧ t.sampler.prev = none ∧ t.sampler.running = 0xFFFF ∧
        t.coin = s.coin ∧ t.queues = s.queues ∧ t.supply = s.supply ∧ t.todo = s.todo)

/-! ## Player controls (R117 to R130) -/

/-- PANEL_CHANGE: a level the line already has changes nothing; another is taken into the panel, moves the chord as its table says
when the line is a chord line, and is reported by a PANEL notice under capture or in DARK. CHORD_HOLD_TIMER_END latches the
chord with a MENU notice; without a running hold timer only time passes (R117, R127, R128, log 2). -/
def Obligations.PanelMovesChord : Prop :=
  ∀ (dt : Nat) (s : State), s.Between →
    let u := s.advance dt
    let c := s.controls
    (∀ (n : LineNo) (b : Bool),
      (c.panel.getLsbD n.val = b → exec (.panelChange dt n b) s = .next u.beginMessage) ∧
      (c.panel.getLsbD n.val ≠ b → ∃ k : Controls,
        exec (.panelChange dt n b) s = .next
          (if c.capture = true ∨ s.out.mode = .dark then
            State.noticed { u with controls := k } .panel (lineBytes k.panel ++ [byteOf (bit c.capture), s.out.mode.code])
          else State.beginMessage { u with controls := k }) ∧
        (∀ m : LineNo, k.panel.getLsbD m.val = if m = n then b else c.panel.getLsbD m.val) ∧
        k = { c with panel := k.panel, chord := k.chord, chordEnd := k.chordEnd } ∧
        let allHeld := ∀ m ∈ c.chordLines, k.panel.getLsbD m.val = true
        let allFree := ∀ m ∈ c.chordLines, k.panel.getLsbD m.val = false
        (n ∉ c.chordLines → k.chord = c.chord ∧ k.chordEnd = c.chordEnd) ∧
        (n ∈ c.chordLines →
          (c.chord = .idle → allHeld → k.chord = .timing ∧ k.chordEnd = some (u.now + c.holdTime * 48000)) ∧
          (c.chord = .idle → ¬ allHeld → k.chord = .idle ∧ k.chordEnd = c.chordEnd) ∧
          (c.chord = .timing → b = true → k.chord = .timing ∧ k.chordEnd = c.chordEnd) ∧
          (c.chord = .timing → b = false → k.chord = .idle ∧ k.chordEnd = none) ∧
          (c.chord = .latched → allFree → k.chord = .idle ∧ k.chordEnd = none) ∧
          (c.chord = .latched → ¬ allFree → k.chord = .latched ∧ k.chordEnd = c.chordEnd)))) ∧
    (c.chordEnd = none → exec (.chordHoldTimerEnd dt) s = .next u.beginMessage) ∧
    ∀ tick, c.chordEnd = some tick →
      exec (.chordHoldTimerEnd dt) s = .next
        (State.noticed { u with now := max u.now tick, controls := { c with chord := .latched, chordEnd := none } } .menu
          (byteOf c.chordLines.length :: padded 4 0xFF (lineCodes c.chordLines) ++ lineBytes c.panel ++ [s.out.mode.code]))

/-- The drive mode of a slot at every moment: PARK while the part is held in reset (R124, R181); otherwise TEST while a harness
test runs on it; otherwise MAP while it is ACTIVE, the output SHOWING and capture off; otherwise PARK (R119). The levels of a slot's drive lines, line by line: the pattern in
TEST, the park pattern in PARK, and in MAP the level of the line's source, a chord line withheld while the chord is
latched. They reach the connector while the power is ON or the mode is TEST; otherwise it holds every line released. A line
sinks current by the slot's polarity, and none of an UNCONFIGURED slot's does. A coin drive is asserted while the ON phase
of a payout pulse to it runs and the slot's power is ON, and its output sinks current by the polarity as a drive line's
does. Lockouts A and B are asserted while the bank plus the coin value exceeds the limit or the input is in JAM (R118,
R120, R121, R123, R129, R138, R141). -/
def Obligations.DriveLinesFollowMode : Prop :=
  (∀ (s : State) (i : SlotNo),
     let testing := ∃ r, s.tester.run = some r ∧ r.slot = i
     let attached := (s.slot i).state = .active ∧ s.out.mode = .showing ∧ s.controls.capture = false
     (s.link.inReset = true → s.driveMode i = .park) ∧
     (s.link.inReset = false →
       (testing → s.driveMode i = .test) ∧ (¬ testing → attached → s.driveMode i = .map) ∧
       (¬ testing → ¬ attached → s.driveMode i = .park))) ∧
  ∀ (s : State),
    (∀ (i : SlotNo) (n : LineNo) (su : Setup), (s.slot i).setup = some su →
      ∃ levels : Lines, s.driveLevels i = some levels ∧
        (∀ r, s.driveMode i = .test → s.tester.run = some r → levels = r.pattern) ∧
        (s.driveMode i = .park → levels = su.profile.park) ∧
        (s.driveMode i = .map →
          (su.map[n.val] = .released → levels.getLsbD n.val = false) ∧
          (su.map[n.val] = .asserted → levels.getLsbD n.val = true) ∧
          ∀ m, su.map[n.val] = .panel m →
            (levels.getLsbD n.val = true ↔
              s.controls.panel.getLsbD m.val = true ∧ ¬ (s.controls.chord = .latched ∧ m ∈ s.controls.chordLines))) ∧
        ((s.slot i).power = true ∨ s.driveMode i = .test → s.connector i = levels) ∧
        ((s.slot i).power = false → s.driveMode i ≠ .test → s.connector i = 0) ∧
        (s.sinks i n = true ↔
          ((s.connector i).getLsbD n.val = true ↔ su.profile.polarity = .lowAssert))) ∧
    (∀ (i : SlotNo) (n : LineNo), (s.slot i).setup = none → s.driveLevels i = none ∧ s.sinks i n = false) ∧
    (∀ (i : SlotNo) (d : CoinDrive),
      let asserted := (s.slot i).power = true ∧ ∃ p, s.coin.pulse = some p ∧ p.slot = i ∧ p.drive = d ∧ p.on = true
      ((s.slot i).setup = none → s.coinSinks i d = false) ∧
      ∀ su, (s.slot i).setup = some su →
        (s.coinSinks i d = true ↔ (asserted ↔ su.profile.polarity = .lowAssert))) ∧
    (s.coin.lockoutA = true ↔ s.coin.settings.bankLimit < s.coin.bank + s.coin.settings.valueA ∨ s.coin.inA.state = .jam) ∧
    (s.coin.lockoutB = true ↔ s.coin.settings.bankLimit < s.coin.bank + s.coin.settings.valueB ∨ s.coin.inB.state = .jam)

/-! ## Coins, credits and meters (R132 to R147) -/

/-- CREDIT add puts n clamped into 1 to 99 into the bank, which stops at 255, the excess lost and all of n added; CREDIT
clear empties a bank above 0 into units cleared and is answered ALREADY on an empty one. When the bank changes the payout
test and the COIN notice follow, and on a bank that stays at 255 neither does (R140, R148). That the reply stands first and
the payout test's notice before the request's own is the model's reading (log 27). -/
def Obligations.CreditAddsAndClears : Prop :=
  ∀ (dt : Nat) (tag n : Byte) (s : State), s.TakesRequests →
    let u := s.received dt
    let k := max 1 (min 99 n.toNat)
    let lost := s.coin.bank + k - 255
    let bank := min 255 (s.coin.bank + k)
    let added : CoinUnit := { s.coin with
      bank := bank
      totals := { s.coin.totals with added := s.coin.totals.added + BitVec.ofNat 32 k
                                     lost := s.coin.totals.lost + BitVec.ofNat 32 lost } }
    let cleared : CoinUnit := { s.coin with
      bank := 0
      totals := { s.coin.totals with cleared := s.coin.totals.cleared + BitVec.ofNat 32 s.coin.bank } }
    let follow (t : State) (cause : CoinCause) : State := (t.payoutTest.coinNotice cause).beginMessage
    let answered := State.reply { u with coin := added } 0x0F tag [0, 0, byteOf bank, byteOf k, byteOf lost]
    (bank ≠ s.coin.bank → exec (.creditAdd dt tag n) s = .next (follow answered .creditAdded)) ∧
    (bank = s.coin.bank → exec (.creditAdd dt tag n) s = .next answered.beginMessage) ∧
    (s.coin.bank = 0 → exec (.creditClear dt tag) s = .next (u.replied 0x0F tag [3])) ∧
    (s.coin.bank ≠ 0 →
      exec (.creditClear dt tag) s = .next
        (follow (State.reply { u with coin := cleared } 0x0F tag [0, 1, 0, byteOf s.coin.bank, 0]) .creditCleared))

/-- The payout test: a pulse begins exactly in SHOWING with capture off, a source slot with a coin profile, no pulse in
flight, the paired sense released and enough units banked. Its units go from the bank to units paid, it is recorded ON for
the profile's on time with the profile's off time, and a COIN notice is queued; otherwise nothing changes (R142, R143). -/
def Obligations.PayoutTestBeginsPulse : Prop :=
  ∀ s : State,
    let may (i : SlotNo) (p : CoinProfile) : Prop :=
      s.out.mode = .showing ∧ s.out.source = some i ∧ (∃ su, (s.slot i).setup = some su ∧ su.profile.coin = some p) ∧
      s.controls.capture = false ∧ s.coin.pulse = none ∧ s.senseAsserted i p.drive = false ∧ p.units ≤ s.coin.bank
    (∀ i p, may i p →
      s.payoutTest = State.coinNotice { s with coin := { s.coin with
          bank := s.coin.bank - p.units
          totals := { s.coin.totals with paid := s.coin.totals.paid + BitVec.ofNat 32 p.units }
          pulse := some { slot := i, drive := p.drive, units := p.units, on := true, ends := s.now + p.onTime * 48000
                          offTime := p.offTime } } } .payout) ∧
    ((∀ i p, ¬ may i p) → s.payoutTest = s)

/-- COIN_SWITCH_CHANGE: a level the switch has changes nothing; a closing begins a closure; an opening judges it by its length:
below the pulse minimum noise is counted, up to the pulse maximum a coin is banked with its value, its total and its meter, the
payout test and a COIN notice, and past the maximum a jam is counted; an opening in JAM ends it with a COIN notice.
COIN_PULSE_MAXIMUM takes a closure in progress to JAM, counted and noticed, and changes nothing else (R134, R136, R139, R147,
log 21). That the payout test stands before the coin's own notice is the model's reading (log 27), and that a level the switch
has, or COIN_PULSE_MAXIMUM with no closure in progress, lets only time pass is its choice (log 2). -/
def Obligations.CoinClosureJudged : Prop :=
  ∀ (dt : Nat) (x : CoinInput) (s : State), s.Between →
    let u := s.advance dt
    let r := s.coin.input x
    let set := s.coin.settings
    let lasted := u.now - r.since
    let sums := s.coin.totals
    let withInput (st : Closure) (sum : Totals) : CoinUnit :=
      { s.coin.setInput x { state := st, since := r.since, closed := false } with totals := sum }
    let jams : Totals :=
      match x with | .a => { sums with jamsA := sums.jamsA + 1 } | .b => { sums with jamsB := sums.jamsB + 1 }
    let noise : Totals :=
      match x with | .a => { sums with noiseA := sums.noiseA + 1 } | .b => { sums with noiseB := sums.noiseB + 1 }
    let coins : Totals :=
      match x with | .a => { sums with coinsA := sums.coinsA + 1 } | .b => { sums with coinsB := sums.coinsB + 1 }
    exec (.coinSwitchChange dt x r.closed) s = .next u.beginMessage ∧
    (r.closed = false →
      exec (.coinSwitchChange dt x true) s = .next
        (State.beginMessage { u with coin := s.coin.setInput x { state := .timing, since := u.now, closed := true } })) ∧
    (r.closed = true → r.state = .timing →
      (lasted < set.pulseMin * 48000 →
        exec (.coinSwitchChange dt x false) s = .next (State.beginMessage { u with coin := withInput .idle noise })) ∧
      (set.pulseMin * 48000 ≤ lasted → lasted ≤ set.pulseMax * 48000 →
        let value := match x with | .a => set.valueA | .b => set.valueB
        let banked : CoinUnit :=
          { withInput .idle { coins with
              accepted := sums.accepted + BitVec.ofNat 32 value
              lost := sums.lost + BitVec.ofNat 32 (s.coin.bank + value - 255) } with
            bank := min 255 (s.coin.bank + value) }
        let counted : CoinUnit :=
          match (match x with | .a => set.meterA | .b => set.meterB) with
          | none => banked
          | some m =>
            let w := s.coin.meter m
            banked.setMeter m
              (if w.phase = .idle then
                { pending := min 255 (w.pending + 1), phase := .on, ends := u.now + set.meterOn * 48000
                  offTime := set.meterOff }
              else { w with pending := min 255 (w.pending + 1) })
        exec (.coinSwitchChange dt x false) s = .next
          ((State.payoutTest { u with coin := counted }).coinNotice (.coin x)).beginMessage) ∧
      (set.pulseMin * 48000 ≤ lasted → set.pulseMax * 48000 < lasted →
        ∃ l : Link, exec (.coinSwitchChange dt x false) s = .next
          (State.beginMessage { u with coin := withInput .idle jams, link := l }))) ∧
    (r.closed = true → r.state = .jam →
      exec (.coinSwitchChange dt x false) s = .next
        (State.coinNotice { u with coin := withInput .idle sums } (.jamCleared x)).beginMessage) ∧
    (r.state ≠ .timing → exec (.coinPulseMaximum dt x) s = .next u.beginMessage) ∧
    (r.state = .timing →
      exec (.coinPulseMaximum dt x) s = .next
        (State.coinNotice
          { u with
            now := max u.now (r.since + set.pulseMax * 48000)
            coin := { s.coin.setInput x { r with state := .jam } with totals := jams } } (.jam x)).beginMessage)

/-- The phases of a payout pulse and of a meter. PAYOUT_ON_TIME_END releases the drive and starts the off time the pulse began
with; PAYOUT_OFF_TIME_END ends the pulse, makes the payout test, and in a FADE that has reached mute begins BRIDGE.
METER_ON_END goes from ON to OFF, METER_OFF_END counts one coin off and begins the next pulse while any is left. In another
phase each only lets time pass. LOCKOUT_SENSE_CHANGE takes one level of one sense and makes the payout test (R93, R142, R143,
R147, log 2). -/
def Obligations.PayoutPulseAndMetersRun : Prop :=
  ∀ (dt : Nat) (s : State), s.Between →
    let u := s.advance dt
    (∀ (i : SlotNo) (d : CoinDrive) (high : Bool), ∃ v : Vector Senses 8,
      exec (.lockoutSenseChange dt i d high) s = .next (State.payoutTest { u with senses := v }).beginMessage ∧
      ∀ j : SlotNo, v[j.val] =
        if j = i then
          (match d with | .c1 => { s.sense i with l1 := high } | .c2 => { s.sense i with l2 := high })
        else s.sense j) ∧
    ((∀ p, s.coin.pulse = some p → p.on = false) → exec (.payoutOnTimeEnd dt) s = .next u.beginMessage) ∧
    ((∀ p, s.coin.pulse = some p → p.on = true) → exec (.payoutOffTimeEnd dt) s = .next u.beginMessage) ∧
    (∀ p, s.coin.pulse = some p →
      let now := max u.now p.ends
      (p.on = true →
        exec (.payoutOnTimeEnd dt) s = .next
          (State.beginMessage { u with
            now := now, coin := { s.coin with pulse := some { p with on := false, ends := now + p.offTime * 48000 } } })) ∧
      (p.on = false →
        let free : State := { u with now := now, coin := { s.coin with pulse := none } }
        ((∀ c, s.chg = some c → c.stage ≠ .fade) →
          exec (.payoutOffTimeEnd dt) s = .next free.payoutTest.beginMessage) ∧
        ∀ c, s.chg = some c → c.stage = .fade → s.out.mode = .changing → s.out.gain = 63 → s.out.sync ≠ .bridge →
          exec (.payoutOffTimeEnd dt) s = .next
            (State.beginMessage { free with chg := some { c with
              stage := .bridge, cut := { Cut.none with timer := some (now + 12000000) } } }))) ∧
    ∀ m : MeterNo,
      let r := s.coin.meter m
      let now := max u.now r.ends
      (r.phase ≠ .on → exec (.meterOnEnd dt m) s = .next u.beginMessage) ∧
      (r.phase ≠ .off → exec (.meterOffEnd dt m) s = .next u.beginMessage) ∧
      (r.phase = .on →
        exec (.meterOnEnd dt m) s = .next
          (State.beginMessage { u with
            now := now, coin := s.coin.setMeter m { r with phase := .off, ends := now + r.offTime * 48000 } })) ∧
      (r.phase = .off →
        exec (.meterOffEnd dt m) s = .next
          (State.beginMessage { u with
            now := now
            coin := s.coin.setMeter m
              (if r.pending ≤ 1 then { r with pending := 0, phase := .idle }
              else { pending := r.pending - 1, phase := .on, ends := now + s.coin.settings.meterOn * 48000
                     offTime := s.coin.settings.meterOff }) }))

/-! ## Harness test (R163 to R169) -/

/-- The 24-bit generator: the first pattern of a test is its seed; each later one is the doubled pattern's low 24 bits,
exclusive-ored with C20001h when the bit doubled out was 1, whatever the slot and its polarity; it never gives 0 from a pattern
that is not 0; and a seed of 0 is stored as 1 (R166). -/
def Obligations.PatternsFollowGenerator : Prop :=
  (∀ p : Lines,
    (nextPattern p).toNat =
      if p.toNat < 2 ^ 23 then 2 * p.toNat else (2 * p.toNat - 2 ^ 24) ^^^ 0xC20001) ∧
  (∀ p : Lines, p ≠ 0 → nextPattern p ≠ 0) ∧
  (∀ r : RawStep, r.kind = 4 → r.params.extractLsb' 16 24 = 0 → ∃ n, storeStep r = some (.harness 1 n)) ∧
  (∀ r seed n, storeStep r = some (.harness seed n) → seed ≠ 0) ∧
  (∀ (s : State) (i : SlotNo) (seed : Lines) (count : Nat), (s.queue i).step = some (.harness seed count) →
    (s.beginTest i).tester.run = some { slot := i, pattern := seed, ends := s.now + 96000 }) ∧
  ∀ (s : State) (r : TestRun) (senses : Lines) (su : Setup) (before : TestRecord), (s.slot r.slot).setup = some su →
    s.tester.record = some before → before.done + 1 < before.count →
    (s.patternEnds r senses).tester.run =
      some { slot := r.slot, pattern := nextPattern r.pattern, ends := s.now + 96000 }

/-- HARNESS_PATTERN_END: the senses, read at the slot's polarity, raise the cannot-assert count of each line driven asserted and
read released and the held-asserted count of each read asserted and driven released, and are folded into the signature. With
patterns left the next is driven; at the last the verdict is PASS exactly when all 48 counts are 0, the tester is FREE, the slot
goes back to its test return state and the step ends OK or HARNESS_FAIL. On a FREE tester only time passes. No hold has expired
over the slot (R167, R168, log 2). A HARNESS step that passed its check joins the tail of the wait list where the tester is
RUNNING or handed on, and takes a FREE tester at once: the test begins with the seed driven and a new record of zeros, and the
slot enters TESTING with a SLOT notice, the state it had being its test return state. A FREE tester is handed to the head of
its wait list, which leaves the list: a slot that has become the target or has entered a state the check rejects ends the step
IN_USE, the record staying and the tester being handed on, and on any other slot its test begins (R28, R31, R164, R165). -/
def Obligations.HarnessPatternReadBack : Prop :=
  (∀ (s : State) (i : SlotNo) (seed : Lines) (count : Nat),
    let busy := s.tester.run ≠ none ∨ s.tester.wait ≠ []
    let refused := s.target = some i ∨ (s.slot i).state ∈ [SlotState.active, .starting, .waiting, .resting, .probing]
    let begun (rest : List SlotNo) : State :=
      (State.notice
        { s.modSlot i fun x => { x with state := .testing, testReturn := some (s.slot i).state } with
          tester :=
            { run := some { slot := i, pattern := seed, ends := s.now + 96000 }, wait := rest
              record := some { slot := i, seed := seed, count := count, done := 0, signature := 0
                               cannotAssert := Vector.replicate 24 0, heldAsserted := Vector.replicate 24 0
                               verdict := none } } }
        (.slot i) [byteOf i.val, 9, if (s.slot i).power then 1 else 0, faultCode (s.slot i).lastFault]).push
          [.heldCheck i]
    (busy →
      s.startStep i (.harness seed count) = { s with tester := { s.tester with wait := s.tester.wait ++ [i] } }) ∧
    (s.tester.run ≠ none ∨ s.tester.wait = [] → s.doTask .tester = s) ∧
    (∀ rest, s.tester.run = none → s.tester.wait = i :: rest → refused →
      s.doTask .tester =
        State.push { s with tester := { s.tester with wait := rest } } [.stepEnd i .inUse none, .tester]) ∧
    ((s.queue i).step = some (.harness seed count) → (s.slot i).state ≠ .testing →
      (¬ busy → s.startStep i (.harness seed count) = begun []) ∧
      ∀ rest, s.tester.run = none → s.tester.wait = i :: rest → ¬ refused → s.doTask .tester = begun rest)) ∧
  ∀ (dt : Nat) (senses : Lines) (s : State), s.Between →
    let u := s.advance dt
    (s.tester.run = none → exec (.harnessPatternEnd dt senses) s = .next u.beginMessage) ∧
    ∀ (r : TestRun) (su : Setup) (before : TestRecord), s.tester.run = some r → (s.slot r.slot).setup = some su →
      s.tester.record = some before →
      let now := max u.now r.ends
      let back : Lines := if su.profile.polarity = .lowAssert then ~~~senses else senses
      let value : Half := back.extractLsb' 0 16 ^^^ (back.extractLsb' 16 8).setWidth 16
      let shifted : Half := if before.signature.msb then (before.signature <<< 1) ^^^ 0x1021 else before.signature <<< 1
      ∃ after : TestRecord,
        after = { before with
          done := before.done + 1, signature := shifted ^^^ value
          cannotAssert := after.cannotAssert, heldAsserted := after.heldAsserted } ∧
        (∀ n : LineNo,
          after.cannotAssert[n.val] = before.cannotAssert[n.val] +
            (if r.pattern.getLsbD n.val = true ∧ back.getLsbD n.val = false then 1 else 0) ∧
          after.heldAsserted[n.val] = before.heldAsserted[n.val] +
            (if r.pattern.getLsbD n.val = false ∧ back.getLsbD n.val = true then 1 else 0)) ∧
        (before.done + 1 < before.count →
          exec (.harnessPatternEnd dt senses) s = .next
            (State.beginMessage { u with
              now := now
              tester := { s.tester with
                run := some { r with pattern := nextPattern r.pattern, ends := now + 96000 }, record := some after } })) ∧
        (before.count ≤ before.done + 1 → (s.slot r.slot).faultAtEnd = false → ∀ st, (s.slot r.slot).testReturn = some st →
          ∃ (v : TestVerdict) (t : State),
            exec (.harnessPatternEnd dt senses) s = .next (State.finish (t.push
              [.heldCheck r.slot, .stepEnd r.slot (if v = .pass then .ok else .harnessFail) none, .tester])) ∧
            (v = .pass ↔ ∀ n : LineNo, after.cannotAssert[n.val] = 0 ∧ after.heldAsserted[n.val] = 0) ∧
            (v = .pass ∨ v = .fail) ∧
            t.tester = { s.tester with run := none, record := some { after with verdict := some v } } ∧
            t.slot r.slot = { s.slot r.slot with state := st, testReturn := none } ∧
            (∀ j, j ≠ r.slot → t.slot j = s.slot j) ∧ t.queues = s.queues ∧ t.out = s.out)
end

