-- ==== Sys2Proof/Laws/State.lean ====
section
/-! SUPPORT. What each update of the state leaves in each field, and what reading one slot's record gives after an
update of one slot's record. -/

namespace Sys2Proof.Machine

/-! ## advance -/

@[simp] theorem State.advance_now (s : State) (dt : Nat) : (s.advance dt).now = s.now + dt := rfl
@[simp] theorem State.advance_slots (s : State) (dt : Nat) : (s.advance dt).slots = s.slots := rfl
@[simp] theorem State.advance_supply (s : State) (dt : Nat) : (s.advance dt).supply = s.supply := rfl
@[simp] theorem State.advance_queues (s : State) (dt : Nat) : (s.advance dt).queues = s.queues := rfl
@[simp] theorem State.advance_taps (s : State) (dt : Nat) : (s.advance dt).taps = s.taps := rfl
@[simp] theorem State.advance_engines (s : State) (dt : Nat) : (s.advance dt).engines = s.engines := rfl
@[simp] theorem State.advance_probeList (s : State) (dt : Nat) : (s.advance dt).probeList = s.probeList := rfl
@[simp] theorem State.advance_out (s : State) (dt : Nat) : (s.advance dt).out = s.out := rfl
@[simp] theorem State.advance_settings (s : State) (dt : Nat) : (s.advance dt).settings = s.settings := rfl
@[simp] theorem State.advance_chg (s : State) (dt : Nat) : (s.advance dt).chg = s.chg := rfl
@[simp] theorem State.advance_classDeadline (s : State) (dt : Nat) :
    (s.advance dt).classDeadline = s.classDeadline := rfl
@[simp] theorem State.advance_controls (s : State) (dt : Nat) : (s.advance dt).controls = s.controls := rfl
@[simp] theorem State.advance_coin (s : State) (dt : Nat) : (s.advance dt).coin = s.coin := rfl
@[simp] theorem State.advance_senses (s : State) (dt : Nat) : (s.advance dt).senses = s.senses := rfl
@[simp] theorem State.advance_sampler (s : State) (dt : Nat) : (s.advance dt).sampler = s.sampler := rfl
@[simp] theorem State.advance_tester (s : State) (dt : Nat) : (s.advance dt).tester = s.tester := rfl
@[simp] theorem State.advance_link (s : State) (dt : Nat) : (s.advance dt).link = s.link := rfl
@[simp] theorem State.advance_todo (s : State) (dt : Nat) : (s.advance dt).todo = s.todo := rfl
@[simp] theorem State.advance_pending (s : State) (dt : Nat) : (s.advance dt).pending = s.pending := rfl

/-! ## reach -/

@[simp] theorem State.reach_now (s : State) (tick : Nat) : (s.reach tick).now = max s.now tick := rfl
@[simp] theorem State.reach_slots (s : State) (tick : Nat) : (s.reach tick).slots = s.slots := rfl
@[simp] theorem State.reach_supply (s : State) (tick : Nat) : (s.reach tick).supply = s.supply := rfl
@[simp] theorem State.reach_queues (s : State) (tick : Nat) : (s.reach tick).queues = s.queues := rfl
@[simp] theorem State.reach_taps (s : State) (tick : Nat) : (s.reach tick).taps = s.taps := rfl
@[simp] theorem State.reach_engines (s : State) (tick : Nat) : (s.reach tick).engines = s.engines := rfl
@[simp] theorem State.reach_probeList (s : State) (tick : Nat) : (s.reach tick).probeList = s.probeList := rfl
@[simp] theorem State.reach_out (s : State) (tick : Nat) : (s.reach tick).out = s.out := rfl
@[simp] theorem State.reach_settings (s : State) (tick : Nat) : (s.reach tick).settings = s.settings := rfl
@[simp] theorem State.reach_chg (s : State) (tick : Nat) : (s.reach tick).chg = s.chg := rfl
@[simp] theorem State.reach_classDeadline (s : State) (tick : Nat) :
    (s.reach tick).classDeadline = s.classDeadline := rfl
@[simp] theorem State.reach_controls (s : State) (tick : Nat) : (s.reach tick).controls = s.controls := rfl
@[simp] theorem State.reach_coin (s : State) (tick : Nat) : (s.reach tick).coin = s.coin := rfl
@[simp] theorem State.reach_senses (s : State) (tick : Nat) : (s.reach tick).senses = s.senses := rfl
@[simp] theorem State.reach_sampler (s : State) (tick : Nat) : (s.reach tick).sampler = s.sampler := rfl
@[simp] theorem State.reach_tester (s : State) (tick : Nat) : (s.reach tick).tester = s.tester := rfl
@[simp] theorem State.reach_link (s : State) (tick : Nat) : (s.reach tick).link = s.link := rfl
@[simp] theorem State.reach_todo (s : State) (tick : Nat) : (s.reach tick).todo = s.todo := rfl
@[simp] theorem State.reach_pending (s : State) (tick : Nat) : (s.reach tick).pending = s.pending := rfl

/-! ## modSlot -/

@[simp] theorem State.modSlot_now (s : State) (i : SlotNo) (f : Slot → Slot) : (s.modSlot i f).now = s.now := rfl
@[simp] theorem State.modSlot_slots (s : State) (i : SlotNo) (f : Slot → Slot) :
    (s.modSlot i f).slots = s.slots.set i.val (f (s.slot i)) i.isLt := rfl
@[simp] theorem State.modSlot_supply (s : State) (i : SlotNo) (f : Slot → Slot) :
    (s.modSlot i f).supply = s.supply := rfl
@[simp] theorem State.modSlot_queues (s : State) (i : SlotNo) (f : Slot → Slot) :
    (s.modSlot i f).queues = s.queues := rfl
@[simp] theorem State.modSlot_taps (s : State) (i : SlotNo) (f : Slot → Slot) : (s.modSlot i f).taps = s.taps := rfl
@[simp] theorem State.modSlot_engines (s : State) (i : SlotNo) (f : Slot → Slot) :
    (s.modSlot i f).engines = s.engines := rfl
@[simp] theorem State.modSlot_probeList (s : State) (i : SlotNo) (f : Slot → Slot) :
    (s.modSlot i f).probeList = s.probeList := rfl
@[simp] theorem State.modSlot_out (s : State) (i : SlotNo) (f : Slot → Slot) : (s.modSlot i f).out = s.out := rfl
@[simp] theorem State.modSlot_settings (s : State) (i : SlotNo) (f : Slot → Slot) :
    (s.modSlot i f).settings = s.settings := rfl
@[simp] theorem State.modSlot_chg (s : State) (i : SlotNo) (f : Slot → Slot) : (s.modSlot i f).chg = s.chg := rfl
@[simp] theorem State.modSlot_classDeadline (s : State) (i : SlotNo) (f : Slot → Slot) :
    (s.modSlot i f).classDeadline = s.classDeadline := rfl
@[simp] theorem State.modSlot_controls (s : State) (i : SlotNo) (f : Slot → Slot) :
    (s.modSlot i f).controls = s.controls := rfl
@[simp] theorem State.modSlot_coin (s : State) (i : SlotNo) (f : Slot → Slot) : (s.modSlot i f).coin = s.coin := rfl
@[simp] theorem State.modSlot_senses (s : State) (i : SlotNo) (f : Slot → Slot) :
    (s.modSlot i f).senses = s.senses := rfl
@[simp] theorem State.modSlot_sampler (s : State) (i : SlotNo) (f : Slot → Slot) :
    (s.modSlot i f).sampler = s.sampler := rfl
@[simp] theorem State.modSlot_tester (s : State) (i : SlotNo) (f : Slot → Slot) :
    (s.modSlot i f).tester = s.tester := rfl
@[simp] theorem State.modSlot_link (s : State) (i : SlotNo) (f : Slot → Slot) : (s.modSlot i f).link = s.link := rfl
@[simp] theorem State.modSlot_todo (s : State) (i : SlotNo) (f : Slot → Slot) : (s.modSlot i f).todo = s.todo := rfl
@[simp] theorem State.modSlot_pending (s : State) (i : SlotNo) (f : Slot → Slot) :
    (s.modSlot i f).pending = s.pending := rfl

/-! ## modQueue -/

@[simp] theorem State.modQueue_now (s : State) (i : SlotNo) (f : Queue → Queue) : (s.modQueue i f).now = s.now := rfl
@[simp] theorem State.modQueue_slots (s : State) (i : SlotNo) (f : Queue → Queue) :
    (s.modQueue i f).slots = s.slots := rfl
@[simp] theorem State.modQueue_supply (s : State) (i : SlotNo) (f : Queue → Queue) :
    (s.modQueue i f).supply = s.supply := rfl
@[simp] theorem State.modQueue_queues (s : State) (i : SlotNo) (f : Queue → Queue) :
    (s.modQueue i f).queues = s.queues.set i.val (f (s.queue i)) i.isLt := rfl
@[simp] theorem State.modQueue_taps (s : State) (i : SlotNo) (f : Queue → Queue) :
    (s.modQueue i f).taps = s.taps := rfl
@[simp] theorem State.modQueue_engines (s : State) (i : SlotNo) (f : Queue → Queue) :
    (s.modQueue i f).engines = s.engines := rfl
@[simp] theorem State.modQueue_probeList (s : State) (i : SlotNo) (f : Queue → Queue) :
    (s.modQueue i f).probeList = s.probeList := rfl
@[simp] theorem State.modQueue_out (s : State) (i : SlotNo) (f : Queue → Queue) : (s.modQueue i f).out = s.out := rfl
@[simp] theorem State.modQueue_settings (s : State) (i : SlotNo) (f : Queue → Queue) :
    (s.modQueue i f).settings = s.settings := rfl
@[simp] theorem State.modQueue_chg (s : State) (i : SlotNo) (f : Queue → Queue) : (s.modQueue i f).chg = s.chg := rfl
@[simp] theorem State.modQueue_classDeadline (s : State) (i : SlotNo) (f : Queue → Queue) :
    (s.modQueue i f).classDeadline = s.classDeadline := rfl
@[simp] theorem State.modQueue_controls (s : State) (i : SlotNo) (f : Queue → Queue) :
    (s.modQueue i f).controls = s.controls := rfl
@[simp] theorem State.modQueue_coin (s : State) (i : SlotNo) (f : Queue → Queue) :
    (s.modQueue i f).coin = s.coin := rfl
@[simp] theorem State.modQueue_senses (s : State) (i : SlotNo) (f : Queue → Queue) :
    (s.modQueue i f).senses = s.senses := rfl
@[simp] theorem State.modQueue_sampler (s : State) (i : SlotNo) (f : Queue → Queue) :
    (s.modQueue i f).sampler = s.sampler := rfl
@[simp] theorem State.modQueue_tester (s : State) (i : SlotNo) (f : Queue → Queue) :
    (s.modQueue i f).tester = s.tester := rfl
@[simp] theorem State.modQueue_link (s : State) (i : SlotNo) (f : Queue → Queue) :
    (s.modQueue i f).link = s.link := rfl
@[simp] theorem State.modQueue_todo (s : State) (i : SlotNo) (f : Queue → Queue) :
    (s.modQueue i f).todo = s.todo := rfl
@[simp] theorem State.modQueue_pending (s : State) (i : SlotNo) (f : Queue → Queue) :
    (s.modQueue i f).pending = s.pending := rfl

/-! ## modTap -/

@[simp] theorem State.modTap_now (s : State) (i : SlotNo) (f : Tap → Tap) : (s.modTap i f).now = s.now := rfl
@[simp] theorem State.modTap_slots (s : State) (i : SlotNo) (f : Tap → Tap) : (s.modTap i f).slots = s.slots := rfl
@[simp] theorem State.modTap_supply (s : State) (i : SlotNo) (f : Tap → Tap) : (s.modTap i f).supply = s.supply := rfl
@[simp] theorem State.modTap_queues (s : State) (i : SlotNo) (f : Tap → Tap) : (s.modTap i f).queues = s.queues := rfl
@[simp] theorem State.modTap_taps (s : State) (i : SlotNo) (f : Tap → Tap) :
    (s.modTap i f).taps = s.taps.set i.val (f (s.tap i)) i.isLt := rfl
@[simp] theorem State.modTap_engines (s : State) (i : SlotNo) (f : Tap → Tap) :
    (s.modTap i f).engines = s.engines := rfl
@[simp] theorem State.modTap_probeList (s : State) (i : SlotNo) (f : Tap → Tap) :
    (s.modTap i f).probeList = s.probeList := rfl
@[simp] theorem State.modTap_out (s : State) (i : SlotNo) (f : Tap → Tap) : (s.modTap i f).out = s.out := rfl
@[simp] theorem State.modTap_settings (s : State) (i : SlotNo) (f : Tap → Tap) :
    (s.modTap i f).settings = s.settings := rfl
@[simp] theorem State.modTap_chg (s : State) (i : SlotNo) (f : Tap → Tap) : (s.modTap i f).chg = s.chg := rfl
@[simp] theorem State.modTap_classDeadline (s : State) (i : SlotNo) (f : Tap → Tap) :
    (s.modTap i f).classDeadline = s.classDeadline := rfl
@[simp] theorem State.modTap_controls (s : State) (i : SlotNo) (f : Tap → Tap) :
    (s.modTap i f).controls = s.controls := rfl
@[simp] theorem State.modTap_coin (s : State) (i : SlotNo) (f : Tap → Tap) : (s.modTap i f).coin = s.coin := rfl
@[simp] theorem State.modTap_senses (s : State) (i : SlotNo) (f : Tap → Tap) : (s.modTap i f).senses = s.senses := rfl
@[simp] theorem State.modTap_sampler (s : State) (i : SlotNo) (f : Tap → Tap) :
    (s.modTap i f).sampler = s.sampler := rfl
@[simp] theorem State.modTap_tester (s : State) (i : SlotNo) (f : Tap → Tap) : (s.modTap i f).tester = s.tester := rfl
@[simp] theorem State.modTap_link (s : State) (i : SlotNo) (f : Tap → Tap) : (s.modTap i f).link = s.link := rfl
@[simp] theorem State.modTap_todo (s : State) (i : SlotNo) (f : Tap → Tap) : (s.modTap i f).todo = s.todo := rfl
@[simp] theorem State.modTap_pending (s : State) (i : SlotNo) (f : Tap → Tap) :
    (s.modTap i f).pending = s.pending := rfl

/-! ## setEngine -/

@[simp] theorem State.setEngine_now (s : State) (k : EngineNo) (m : Option Measure) :
    (s.setEngine k m).now = s.now := rfl
@[simp] theorem State.setEngine_slots (s : State) (k : EngineNo) (m : Option Measure) :
    (s.setEngine k m).slots = s.slots := rfl
@[simp] theorem State.setEngine_supply (s : State) (k : EngineNo) (m : Option Measure) :
    (s.setEngine k m).supply = s.supply := rfl
@[simp] theorem State.setEngine_queues (s : State) (k : EngineNo) (m : Option Measure) :
    (s.setEngine k m).queues = s.queues := rfl
@[simp] theorem State.setEngine_taps (s : State) (k : EngineNo) (m : Option Measure) :
    (s.setEngine k m).taps = s.taps := rfl
@[simp] theorem State.setEngine_engines (s : State) (k : EngineNo) (m : Option Measure) :
    (s.setEngine k m).engines = s.engines.set k.val m k.isLt := rfl
@[simp] theorem State.setEngine_probeList (s : State) (k : EngineNo) (m : Option Measure) :
    (s.setEngine k m).probeList = s.probeList := rfl
@[simp] theorem State.setEngine_out (s : State) (k : EngineNo) (m : Option Measure) :
    (s.setEngine k m).out = s.out := rfl
@[simp] theorem State.setEngine_settings (s : State) (k : EngineNo) (m : Option Measure) :
    (s.setEngine k m).settings = s.settings := rfl
@[simp] theorem State.setEngine_chg (s : State) (k : EngineNo) (m : Option Measure) :
    (s.setEngine k m).chg = s.chg := rfl
@[simp] theorem State.setEngine_classDeadline (s : State) (k : EngineNo) (m : Option Measure) :
    (s.setEngine k m).classDeadline = s.classDeadline := rfl
@[simp] theorem State.setEngine_controls (s : State) (k : EngineNo) (m : Option Measure) :
    (s.setEngine k m).controls = s.controls := rfl
@[simp] theorem State.setEngine_coin (s : State) (k : EngineNo) (m : Option Measure) :
    (s.setEngine k m).coin = s.coin := rfl
@[simp] theorem State.setEngine_senses (s : State) (k : EngineNo) (m : Option Measure) :
    (s.setEngine k m).senses = s.senses := rfl
@[simp] theorem State.setEngine_sampler (s : State) (k : EngineNo) (m : Option Measure) :
    (s.setEngine k m).sampler = s.sampler := rfl
@[simp] theorem State.setEngine_tester (s : State) (k : EngineNo) (m : Option Measure) :
    (s.setEngine k m).tester = s.tester := rfl
@[simp] theorem State.setEngine_link (s : State) (k : EngineNo) (m : Option Measure) :
    (s.setEngine k m).link = s.link := rfl
@[simp] theorem State.setEngine_todo (s : State) (k : EngineNo) (m : Option Measure) :
    (s.setEngine k m).todo = s.todo := rfl
@[simp] theorem State.setEngine_pending (s : State) (k : EngineNo) (m : Option Measure) :
    (s.setEngine k m).pending = s.pending := rfl

/-! ## modOut -/

@[simp] theorem State.modOut_now (s : State) (f : Output → Output) : (s.modOut f).now = s.now := rfl
@[simp] theorem State.modOut_slots (s : State) (f : Output → Output) : (s.modOut f).slots = s.slots := rfl
@[simp] theorem State.modOut_supply (s : State) (f : Output → Output) : (s.modOut f).supply = s.supply := rfl
@[simp] theorem State.modOut_queues (s : State) (f : Output → Output) : (s.modOut f).queues = s.queues := rfl
@[simp] theorem State.modOut_taps (s : State) (f : Output → Output) : (s.modOut f).taps = s.taps := rfl
@[simp] theorem State.modOut_engines (s : State) (f : Output → Output) : (s.modOut f).engines = s.engines := rfl
@[simp] theorem State.modOut_probeList (s : State) (f : Output → Output) : (s.modOut f).probeList = s.probeList := rfl
@[simp] theorem State.modOut_out (s : State) (f : Output → Output) : (s.modOut f).out = f s.out := rfl
@[simp] theorem State.modOut_settings (s : State) (f : Output → Output) : (s.modOut f).settings = s.settings := rfl
@[simp] theorem State.modOut_chg (s : State) (f : Output → Output) : (s.modOut f).chg = s.chg := rfl
@[simp] theorem State.modOut_classDeadline (s : State) (f : Output → Output) :
    (s.modOut f).classDeadline = s.classDeadline := rfl
@[simp] theorem State.modOut_controls (s : State) (f : Output → Output) : (s.modOut f).controls = s.controls := rfl
@[simp] theorem State.modOut_coin (s : State) (f : Output → Output) : (s.modOut f).coin = s.coin := rfl
@[simp] theorem State.modOut_senses (s : State) (f : Output → Output) : (s.modOut f).senses = s.senses := rfl
@[simp] theorem State.modOut_sampler (s : State) (f : Output → Output) : (s.modOut f).sampler = s.sampler := rfl
@[simp] theorem State.modOut_tester (s : State) (f : Output → Output) : (s.modOut f).tester = s.tester := rfl
@[simp] theorem State.modOut_link (s : State) (f : Output → Output) : (s.modOut f).link = s.link := rfl
@[simp] theorem State.modOut_todo (s : State) (f : Output → Output) : (s.modOut f).todo = s.todo := rfl
@[simp] theorem State.modOut_pending (s : State) (f : Output → Output) : (s.modOut f).pending = s.pending := rfl

/-! ## modSupply -/

@[simp] theorem State.modSupply_now (s : State) (f : Supply → Supply) : (s.modSupply f).now = s.now := rfl
@[simp] theorem State.modSupply_slots (s : State) (f : Supply → Supply) : (s.modSupply f).slots = s.slots := rfl
@[simp] theorem State.modSupply_supply (s : State) (f : Supply → Supply) : (s.modSupply f).supply = f s.supply := rfl
@[simp] theorem State.modSupply_queues (s : State) (f : Supply → Supply) : (s.modSupply f).queues = s.queues := rfl
@[simp] theorem State.modSupply_taps (s : State) (f : Supply → Supply) : (s.modSupply f).taps = s.taps := rfl
@[simp] theorem State.modSupply_engines (s : State) (f : Supply → Supply) : (s.modSupply f).engines = s.engines := rfl
@[simp] theorem State.modSupply_probeList (s : State) (f : Supply → Supply) :
    (s.modSupply f).probeList = s.probeList := rfl
@[simp] theorem State.modSupply_out (s : State) (f : Supply → Supply) : (s.modSupply f).out = s.out := rfl
@[simp] theorem State.modSupply_settings (s : State) (f : Supply → Supply) :
    (s.modSupply f).settings = s.settings := rfl
@[simp] theorem State.modSupply_chg (s : State) (f : Supply → Supply) : (s.modSupply f).chg = s.chg := rfl
@[simp] theorem State.modSupply_classDeadline (s : State) (f : Supply → Supply) :
    (s.modSupply f).classDeadline = s.classDeadline := rfl
@[simp] theorem State.modSupply_controls (s : State) (f : Supply → Supply) :
    (s.modSupply f).controls = s.controls := rfl
@[simp] theorem State.modSupply_coin (s : State) (f : Supply → Supply) : (s.modSupply f).coin = s.coin := rfl
@[simp] theorem State.modSupply_senses (s : State) (f : Supply → Supply) : (s.modSupply f).senses = s.senses := rfl
@[simp] theorem State.modSupply_sampler (s : State) (f : Supply → Supply) : (s.modSupply f).sampler = s.sampler := rfl
@[simp] theorem State.modSupply_tester (s : State) (f : Supply → Supply) : (s.modSupply f).tester = s.tester := rfl
@[simp] theorem State.modSupply_link (s : State) (f : Supply → Supply) : (s.modSupply f).link = s.link := rfl
@[simp] theorem State.modSupply_todo (s : State) (f : Supply → Supply) : (s.modSupply f).todo = s.todo := rfl
@[simp] theorem State.modSupply_pending (s : State) (f : Supply → Supply) : (s.modSupply f).pending = s.pending := rfl

/-! ## modChange -/

@[simp] theorem State.modChange_now (s : State) (f : Change → Change) : (s.modChange f).now = s.now := rfl
@[simp] theorem State.modChange_slots (s : State) (f : Change → Change) : (s.modChange f).slots = s.slots := rfl
@[simp] theorem State.modChange_supply (s : State) (f : Change → Change) : (s.modChange f).supply = s.supply := rfl
@[simp] theorem State.modChange_queues (s : State) (f : Change → Change) : (s.modChange f).queues = s.queues := rfl
@[simp] theorem State.modChange_taps (s : State) (f : Change → Change) : (s.modChange f).taps = s.taps := rfl
@[simp] theorem State.modChange_engines (s : State) (f : Change → Change) : (s.modChange f).engines = s.engines := rfl
@[simp] theorem State.modChange_probeList (s : State) (f : Change → Change) :
    (s.modChange f).probeList = s.probeList := rfl
@[simp] theorem State.modChange_out (s : State) (f : Change → Change) : (s.modChange f).out = s.out := rfl
@[simp] theorem State.modChange_settings (s : State) (f : Change → Change) :
    (s.modChange f).settings = s.settings := rfl
@[simp] theorem State.modChange_chg (s : State) (f : Change → Change) : (s.modChange f).chg = s.chg.map f := rfl
@[simp] theorem State.modChange_classDeadline (s : State) (f : Change → Change) :
    (s.modChange f).classDeadline = s.classDeadline := rfl
@[simp] theorem State.modChange_controls (s : State) (f : Change → Change) :
    (s.modChange f).controls = s.controls := rfl
@[simp] theorem State.modChange_coin (s : State) (f : Change → Change) : (s.modChange f).coin = s.coin := rfl
@[simp] theorem State.modChange_senses (s : State) (f : Change → Change) : (s.modChange f).senses = s.senses := rfl
@[simp] theorem State.modChange_sampler (s : State) (f : Change → Change) : (s.modChange f).sampler = s.sampler := rfl
@[simp] theorem State.modChange_tester (s : State) (f : Change → Change) : (s.modChange f).tester = s.tester := rfl
@[simp] theorem State.modChange_link (s : State) (f : Change → Change) : (s.modChange f).link = s.link := rfl
@[simp] theorem State.modChange_todo (s : State) (f : Change → Change) : (s.modChange f).todo = s.todo := rfl
@[simp] theorem State.modChange_pending (s : State) (f : Change → Change) : (s.modChange f).pending = s.pending := rfl

/-! ## modControls -/

@[simp] theorem State.modControls_now (s : State) (f : Controls → Controls) : (s.modControls f).now = s.now := rfl
@[simp] theorem State.modControls_slots (s : State) (f : Controls → Controls) :
    (s.modControls f).slots = s.slots := rfl
@[simp] theorem State.modControls_supply (s : State) (f : Controls → Controls) :
    (s.modControls f).supply = s.supply := rfl
@[simp] theorem State.modControls_queues (s : State) (f : Controls → Controls) :
    (s.modControls f).queues = s.queues := rfl
@[simp] theorem State.modControls_taps (s : State) (f : Controls → Controls) : (s.modControls f).taps = s.taps := rfl
@[simp] theorem State.modControls_engines (s : State) (f : Controls → Controls) :
    (s.modControls f).engines = s.engines := rfl
@[simp] theorem State.modControls_probeList (s : State) (f : Controls → Controls) :
    (s.modControls f).probeList = s.probeList := rfl
@[simp] theorem State.modControls_out (s : State) (f : Controls → Controls) : (s.modControls f).out = s.out := rfl
@[simp] theorem State.modControls_settings (s : State) (f : Controls → Controls) :
    (s.modControls f).settings = s.settings := rfl
@[simp] theorem State.modControls_chg (s : State) (f : Controls → Controls) : (s.modControls f).chg = s.chg := rfl
@[simp] theorem State.modControls_classDeadline (s : State) (f : Controls → Controls) :
    (s.modControls f).classDeadline = s.classDeadline := rfl
@[simp] theorem State.modControls_controls (s : State) (f : Controls → Controls) :
    (s.modControls f).controls = f s.controls := rfl
@[simp] theorem State.modControls_coin (s : State) (f : Controls → Controls) : (s.modControls f).coin = s.coin := rfl
@[simp] theorem State.modControls_senses (s : State) (f : Controls → Controls) :
    (s.modControls f).senses = s.senses := rfl
@[simp] theorem State.modControls_sampler (s : State) (f : Controls → Controls) :
    (s.modControls f).sampler = s.sampler := rfl
@[simp] theorem State.modControls_tester (s : State) (f : Controls → Controls) :
    (s.modControls f).tester = s.tester := rfl
@[simp] theorem State.modControls_link (s : State) (f : Controls → Controls) : (s.modControls f).link = s.link := rfl
@[simp] theorem State.modControls_todo (s : State) (f : Controls → Controls) : (s.modControls f).todo = s.todo := rfl
@[simp] theorem State.modControls_pending (s : State) (f : Controls → Controls) :
    (s.modControls f).pending = s.pending := rfl

/-! ## modCoin -/

@[simp] theorem State.modCoin_now (s : State) (f : CoinUnit → CoinUnit) : (s.modCoin f).now = s.now := rfl
@[simp] theorem State.modCoin_slots (s : State) (f : CoinUnit → CoinUnit) : (s.modCoin f).slots = s.slots := rfl
@[simp] theorem State.modCoin_supply (s : State) (f : CoinUnit → CoinUnit) : (s.modCoin f).supply = s.supply := rfl
@[simp] theorem State.modCoin_queues (s : State) (f : CoinUnit → CoinUnit) : (s.modCoin f).queues = s.queues := rfl
@[simp] theorem State.modCoin_taps (s : State) (f : CoinUnit → CoinUnit) : (s.modCoin f).taps = s.taps := rfl
@[simp] theorem State.modCoin_engines (s : State) (f : CoinUnit → CoinUnit) : (s.modCoin f).engines = s.engines := rfl
@[simp] theorem State.modCoin_probeList (s : State) (f : CoinUnit → CoinUnit) :
    (s.modCoin f).probeList = s.probeList := rfl
@[simp] theorem State.modCoin_out (s : State) (f : CoinUnit → CoinUnit) : (s.modCoin f).out = s.out := rfl
@[simp] theorem State.modCoin_settings (s : State) (f : CoinUnit → CoinUnit) :
    (s.modCoin f).settings = s.settings := rfl
@[simp] theorem State.modCoin_chg (s : State) (f : CoinUnit → CoinUnit) : (s.modCoin f).chg = s.chg := rfl
@[simp] theorem State.modCoin_classDeadline (s : State) (f : CoinUnit → CoinUnit) :
    (s.modCoin f).classDeadline = s.classDeadline := rfl
@[simp] theorem State.modCoin_controls (s : State) (f : CoinUnit → CoinUnit) :
    (s.modCoin f).controls = s.controls := rfl
@[simp] theorem State.modCoin_coin (s : State) (f : CoinUnit → CoinUnit) : (s.modCoin f).coin = f s.coin := rfl
@[simp] theorem State.modCoin_senses (s : State) (f : CoinUnit → CoinUnit) : (s.modCoin f).senses = s.senses := rfl
@[simp] theorem State.modCoin_sampler (s : State) (f : CoinUnit → CoinUnit) : (s.modCoin f).sampler = s.sampler := rfl
@[simp] theorem State.modCoin_tester (s : State) (f : CoinUnit → CoinUnit) : (s.modCoin f).tester = s.tester := rfl
@[simp] theorem State.modCoin_link (s : State) (f : CoinUnit → CoinUnit) : (s.modCoin f).link = s.link := rfl
@[simp] theorem State.modCoin_todo (s : State) (f : CoinUnit → CoinUnit) : (s.modCoin f).todo = s.todo := rfl
@[simp] theorem State.modCoin_pending (s : State) (f : CoinUnit → CoinUnit) : (s.modCoin f).pending = s.pending := rfl

/-! ## modSampler -/

@[simp] theorem State.modSampler_now (s : State) (f : Sampler → Sampler) : (s.modSampler f).now = s.now := rfl
@[simp] theorem State.modSampler_slots (s : State) (f : Sampler → Sampler) : (s.modSampler f).slots = s.slots := rfl
@[simp] theorem State.modSampler_supply (s : State) (f : Sampler → Sampler) :
    (s.modSampler f).supply = s.supply := rfl
@[simp] theorem State.modSampler_queues (s : State) (f : Sampler → Sampler) :
    (s.modSampler f).queues = s.queues := rfl
@[simp] theorem State.modSampler_taps (s : State) (f : Sampler → Sampler) : (s.modSampler f).taps = s.taps := rfl
@[simp] theorem State.modSampler_engines (s : State) (f : Sampler → Sampler) :
    (s.modSampler f).engines = s.engines := rfl
@[simp] theorem State.modSampler_probeList (s : State) (f : Sampler → Sampler) :
    (s.modSampler f).probeList = s.probeList := rfl
@[simp] theorem State.modSampler_out (s : State) (f : Sampler → Sampler) : (s.modSampler f).out = s.out := rfl
@[simp] theorem State.modSampler_settings (s : State) (f : Sampler → Sampler) :
    (s.modSampler f).settings = s.settings := rfl
@[simp] theorem State.modSampler_chg (s : State) (f : Sampler → Sampler) : (s.modSampler f).chg = s.chg := rfl
@[simp] theorem State.modSampler_classDeadline (s : State) (f : Sampler → Sampler) :
    (s.modSampler f).classDeadline = s.classDeadline := rfl
@[simp] theorem State.modSampler_controls (s : State) (f : Sampler → Sampler) :
    (s.modSampler f).controls = s.controls := rfl
@[simp] theorem State.modSampler_coin (s : State) (f : Sampler → Sampler) : (s.modSampler f).coin = s.coin := rfl
@[simp] theorem State.modSampler_senses (s : State) (f : Sampler → Sampler) :
    (s.modSampler f).senses = s.senses := rfl
@[simp] theorem State.modSampler_sampler (s : State) (f : Sampler → Sampler) :
    (s.modSampler f).sampler = f s.sampler := rfl
@[simp] theorem State.modSampler_tester (s : State) (f : Sampler → Sampler) :
    (s.modSampler f).tester = s.tester := rfl
@[simp] theorem State.modSampler_link (s : State) (f : Sampler → Sampler) : (s.modSampler f).link = s.link := rfl
@[simp] theorem State.modSampler_todo (s : State) (f : Sampler → Sampler) : (s.modSampler f).todo = s.todo := rfl
@[simp] theorem State.modSampler_pending (s : State) (f : Sampler → Sampler) :
    (s.modSampler f).pending = s.pending := rfl

/-! ## modTester -/

@[simp] theorem State.modTester_now (s : State) (f : Tester → Tester) : (s.modTester f).now = s.now := rfl
@[simp] theorem State.modTester_slots (s : State) (f : Tester → Tester) : (s.modTester f).slots = s.slots := rfl
@[simp] theorem State.modTester_supply (s : State) (f : Tester → Tester) : (s.modTester f).supply = s.supply := rfl
@[simp] theorem State.modTester_queues (s : State) (f : Tester → Tester) : (s.modTester f).queues = s.queues := rfl
@[simp] theorem State.modTester_taps (s : State) (f : Tester → Tester) : (s.modTester f).taps = s.taps := rfl
@[simp] theorem State.modTester_engines (s : State) (f : Tester → Tester) : (s.modTester f).engines = s.engines := rfl
@[simp] theorem State.modTester_probeList (s : State) (f : Tester → Tester) :
    (s.modTester f).probeList = s.probeList := rfl
@[simp] theorem State.modTester_out (s : State) (f : Tester → Tester) : (s.modTester f).out = s.out := rfl
@[simp] theorem State.modTester_settings (s : State) (f : Tester → Tester) :
    (s.modTester f).settings = s.settings := rfl
@[simp] theorem State.modTester_chg (s : State) (f : Tester → Tester) : (s.modTester f).chg = s.chg := rfl
@[simp] theorem State.modTester_classDeadline (s : State) (f : Tester → Tester) :
    (s.modTester f).classDeadline = s.classDeadline := rfl
@[simp] theorem State.modTester_controls (s : State) (f : Tester → Tester) :
    (s.modTester f).controls = s.controls := rfl
@[simp] theorem State.modTester_coin (s : State) (f : Tester → Tester) : (s.modTester f).coin = s.coin := rfl
@[simp] theorem State.modTester_senses (s : State) (f : Tester → Tester) : (s.modTester f).senses = s.senses := rfl
@[simp] theorem State.modTester_sampler (s : State) (f : Tester → Tester) : (s.modTester f).sampler = s.sampler := rfl
@[simp] theorem State.modTester_tester (s : State) (f : Tester → Tester) : (s.modTester f).tester = f s.tester := rfl
@[simp] theorem State.modTester_link (s : State) (f : Tester → Tester) : (s.modTester f).link = s.link := rfl
@[simp] theorem State.modTester_todo (s : State) (f : Tester → Tester) : (s.modTester f).todo = s.todo := rfl
@[simp] theorem State.modTester_pending (s : State) (f : Tester → Tester) : (s.modTester f).pending = s.pending := rfl

/-! ## modLink -/

@[simp] theorem State.modLink_now (s : State) (f : Link → Link) : (s.modLink f).now = s.now := rfl
@[simp] theorem State.modLink_slots (s : State) (f : Link → Link) : (s.modLink f).slots = s.slots := rfl
@[simp] theorem State.modLink_supply (s : State) (f : Link → Link) : (s.modLink f).supply = s.supply := rfl
@[simp] theorem State.modLink_queues (s : State) (f : Link → Link) : (s.modLink f).queues = s.queues := rfl
@[simp] theorem State.modLink_taps (s : State) (f : Link → Link) : (s.modLink f).taps = s.taps := rfl
@[simp] theorem State.modLink_engines (s : State) (f : Link → Link) : (s.modLink f).engines = s.engines := rfl
@[simp] theorem State.modLink_probeList (s : State) (f : Link → Link) : (s.modLink f).probeList = s.probeList := rfl
@[simp] theorem State.modLink_out (s : State) (f : Link → Link) : (s.modLink f).out = s.out := rfl
@[simp] theorem State.modLink_settings (s : State) (f : Link → Link) : (s.modLink f).settings = s.settings := rfl
@[simp] theorem State.modLink_chg (s : State) (f : Link → Link) : (s.modLink f).chg = s.chg := rfl
@[simp] theorem State.modLink_classDeadline (s : State) (f : Link → Link) :
    (s.modLink f).classDeadline = s.classDeadline := rfl
@[simp] theorem State.modLink_controls (s : State) (f : Link → Link) : (s.modLink f).controls = s.controls := rfl
@[simp] theorem State.modLink_coin (s : State) (f : Link → Link) : (s.modLink f).coin = s.coin := rfl
@[simp] theorem State.modLink_senses (s : State) (f : Link → Link) : (s.modLink f).senses = s.senses := rfl
@[simp] theorem State.modLink_sampler (s : State) (f : Link → Link) : (s.modLink f).sampler = s.sampler := rfl
@[simp] theorem State.modLink_tester (s : State) (f : Link → Link) : (s.modLink f).tester = s.tester := rfl
@[simp] theorem State.modLink_link (s : State) (f : Link → Link) : (s.modLink f).link = f s.link := rfl
@[simp] theorem State.modLink_todo (s : State) (f : Link → Link) : (s.modLink f).todo = s.todo := rfl
@[simp] theorem State.modLink_pending (s : State) (f : Link → Link) : (s.modLink f).pending = s.pending := rfl

/-! ## push -/

@[simp] theorem State.push_now (s : State) (ts : List Task) : (s.push ts).now = s.now := rfl
@[simp] theorem State.push_slots (s : State) (ts : List Task) : (s.push ts).slots = s.slots := rfl
@[simp] theorem State.push_supply (s : State) (ts : List Task) : (s.push ts).supply = s.supply := rfl
@[simp] theorem State.push_queues (s : State) (ts : List Task) : (s.push ts).queues = s.queues := rfl
@[simp] theorem State.push_taps (s : State) (ts : List Task) : (s.push ts).taps = s.taps := rfl
@[simp] theorem State.push_engines (s : State) (ts : List Task) : (s.push ts).engines = s.engines := rfl
@[simp] theorem State.push_probeList (s : State) (ts : List Task) : (s.push ts).probeList = s.probeList := rfl
@[simp] theorem State.push_out (s : State) (ts : List Task) : (s.push ts).out = s.out := rfl
@[simp] theorem State.push_settings (s : State) (ts : List Task) : (s.push ts).settings = s.settings := rfl
@[simp] theorem State.push_chg (s : State) (ts : List Task) : (s.push ts).chg = s.chg := rfl
@[simp] theorem State.push_classDeadline (s : State) (ts : List Task) :
    (s.push ts).classDeadline = s.classDeadline := rfl
@[simp] theorem State.push_controls (s : State) (ts : List Task) : (s.push ts).controls = s.controls := rfl
@[simp] theorem State.push_coin (s : State) (ts : List Task) : (s.push ts).coin = s.coin := rfl
@[simp] theorem State.push_senses (s : State) (ts : List Task) : (s.push ts).senses = s.senses := rfl
@[simp] theorem State.push_sampler (s : State) (ts : List Task) : (s.push ts).sampler = s.sampler := rfl
@[simp] theorem State.push_tester (s : State) (ts : List Task) : (s.push ts).tester = s.tester := rfl
@[simp] theorem State.push_link (s : State) (ts : List Task) : (s.push ts).link = s.link := rfl
@[simp] theorem State.push_todo (s : State) (ts : List Task) : (s.push ts).todo = ts ++ s.todo := rfl
@[simp] theorem State.push_pending (s : State) (ts : List Task) : (s.push ts).pending = s.pending := rfl

/-! ## modSetup -/

@[simp] theorem State.modSetup_now (s : State) (i : SlotNo) (f : Setup → Setup) : (s.modSetup i f).now = s.now := rfl
@[simp] theorem State.modSetup_supply (s : State) (i : SlotNo) (f : Setup → Setup) :
    (s.modSetup i f).supply = s.supply := rfl
@[simp] theorem State.modSetup_queues (s : State) (i : SlotNo) (f : Setup → Setup) :
    (s.modSetup i f).queues = s.queues := rfl
@[simp] theorem State.modSetup_taps (s : State) (i : SlotNo) (f : Setup → Setup) :
    (s.modSetup i f).taps = s.taps := rfl
@[simp] theorem State.modSetup_engines (s : State) (i : SlotNo) (f : Setup → Setup) :
    (s.modSetup i f).engines = s.engines := rfl
@[simp] theorem State.modSetup_probeList (s : State) (i : SlotNo) (f : Setup → Setup) :
    (s.modSetup i f).probeList = s.probeList := rfl
@[simp] theorem State.modSetup_out (s : State) (i : SlotNo) (f : Setup → Setup) : (s.modSetup i f).out = s.out := rfl
@[simp] theorem State.modSetup_settings (s : State) (i : SlotNo) (f : Setup → Setup) :
    (s.modSetup i f).settings = s.settings := rfl
@[simp] theorem State.modSetup_chg (s : State) (i : SlotNo) (f : Setup → Setup) : (s.modSetup i f).chg = s.chg := rfl
@[simp] theorem State.modSetup_classDeadline (s : State) (i : SlotNo) (f : Setup → Setup) :
    (s.modSetup i f).classDeadline = s.classDeadline := rfl
@[simp] theorem State.modSetup_controls (s : State) (i : SlotNo) (f : Setup → Setup) :
    (s.modSetup i f).controls = s.controls := rfl
@[simp] theorem State.modSetup_coin (s : State) (i : SlotNo) (f : Setup → Setup) :
    (s.modSetup i f).coin = s.coin := rfl
@[simp] theorem State.modSetup_senses (s : State) (i : SlotNo) (f : Setup → Setup) :
    (s.modSetup i f).senses = s.senses := rfl
@[simp] theorem State.modSetup_sampler (s : State) (i : SlotNo) (f : Setup → Setup) :
    (s.modSetup i f).sampler = s.sampler := rfl
@[simp] theorem State.modSetup_tester (s : State) (i : SlotNo) (f : Setup → Setup) :
    (s.modSetup i f).tester = s.tester := rfl
@[simp] theorem State.modSetup_link (s : State) (i : SlotNo) (f : Setup → Setup) :
    (s.modSetup i f).link = s.link := rfl
@[simp] theorem State.modSetup_todo (s : State) (i : SlotNo) (f : Setup → Setup) :
    (s.modSetup i f).todo = s.todo := rfl
@[simp] theorem State.modSetup_pending (s : State) (i : SlotNo) (f : Setup → Setup) :
    (s.modSetup i f).pending = s.pending := rfl

/-! ## Reading one record after a change of one -/

theorem slot_ne {i j : SlotNo} (h : i ≠ j) : i.val ≠ j.val := fun e => h (Fin.ext e)

@[simp] theorem State.modSlot_slot_self (s : State) (i : SlotNo) (f : Slot → Slot) :
    (s.modSlot i f).slot i = f (s.slot i) := by
  simp [State.slot, State.modSlot]

theorem State.modSlot_slot_of_ne (s : State) {i j : SlotNo} (h : i ≠ j) (f : Slot → Slot) :
    (s.modSlot i f).slot j = s.slot j := by
  simp [State.slot, State.modSlot, Vector.getElem_set_ne _ _ (slot_ne h)]

@[simp] theorem State.modQueue_queue_self (s : State) (i : SlotNo) (f : Queue → Queue) :
    (s.modQueue i f).queue i = f (s.queue i) := by
  simp [State.queue, State.modQueue]

theorem State.modQueue_queue_of_ne (s : State) {i j : SlotNo} (h : i ≠ j) (f : Queue → Queue) :
    (s.modQueue i f).queue j = s.queue j := by
  simp [State.queue, State.modQueue, Vector.getElem_set_ne _ _ (slot_ne h)]

@[simp] theorem State.modTap_tap_self (s : State) (i : SlotNo) (f : Tap → Tap) :
    (s.modTap i f).tap i = f (s.tap i) := by
  simp [State.tap, State.modTap]

theorem State.modTap_tap_of_ne (s : State) {i j : SlotNo} (h : i ≠ j) (f : Tap → Tap) :
    (s.modTap i f).tap j = s.tap j := by
  simp [State.tap, State.modTap, Vector.getElem_set_ne _ _ (slot_ne h)]

@[simp] theorem State.modTap_modTap (s : State) (i : SlotNo) (f g : Tap → Tap) :
    (s.modTap i f).modTap i g = s.modTap i fun t => g (f t) := by
  simp [State.tap, State.modTap]

@[simp] theorem State.setEngine_engine_self (s : State) (k : EngineNo) (m : Option Measure) :
    (s.setEngine k m).engine k = m := by
  simp [State.engine, State.setEngine]

theorem State.setEngine_engine_of_ne (s : State) {k j : EngineNo} (h : k ≠ j) (m : Option Measure) :
    (s.setEngine k m).engine j = s.engine j := by
  have : k.val ≠ j.val := fun e => h (Fin.ext e)
  simp [State.engine, State.setEngine, Vector.getElem_set_ne _ _ this]

@[simp] theorem State.advance_slot (s : State) (dt : Nat) (j : SlotNo) : (s.advance dt).slot j = s.slot j := rfl
@[simp] theorem State.advance_queue (s : State) (dt : Nat) (j : SlotNo) : (s.advance dt).queue j = s.queue j := rfl
@[simp] theorem State.advance_tap (s : State) (dt : Nat) (j : SlotNo) : (s.advance dt).tap j = s.tap j := rfl
@[simp] theorem State.advance_sense (s : State) (dt : Nat) (j : SlotNo) : (s.advance dt).sense j = s.sense j := rfl
@[simp] theorem State.advance_engine (s : State) (dt : Nat) (k' : EngineNo) :
    (s.advance dt).engine k' = s.engine k' := rfl
@[simp] theorem State.advance_profile (s : State) (dt : Nat) (j : SlotNo) :
    (s.advance dt).profile j = s.profile j := rfl
@[simp] theorem State.reach_slot (s : State) (tick : Nat) (j : SlotNo) : (s.reach tick).slot j = s.slot j := rfl
@[simp] theorem State.reach_queue (s : State) (tick : Nat) (j : SlotNo) : (s.reach tick).queue j = s.queue j := rfl
@[simp] theorem State.reach_tap (s : State) (tick : Nat) (j : SlotNo) : (s.reach tick).tap j = s.tap j := rfl
@[simp] theorem State.reach_sense (s : State) (tick : Nat) (j : SlotNo) : (s.reach tick).sense j = s.sense j := rfl
@[simp] theorem State.reach_engine (s : State) (tick : Nat) (k' : EngineNo) :
    (s.reach tick).engine k' = s.engine k' := rfl
@[simp] theorem State.reach_profile (s : State) (tick : Nat) (j : SlotNo) :
    (s.reach tick).profile j = s.profile j := rfl
@[simp] theorem State.modSlot_queue (s : State) (i : SlotNo) (f : Slot → Slot) (j : SlotNo) :
    (s.modSlot i f).queue j = s.queue j := rfl
@[simp] theorem State.modSlot_tap (s : State) (i : SlotNo) (f : Slot → Slot) (j : SlotNo) :
    (s.modSlot i f).tap j = s.tap j := rfl
@[simp] theorem State.modSlot_sense (s : State) (i : SlotNo) (f : Slot → Slot) (j : SlotNo) :
    (s.modSlot i f).sense j = s.sense j := rfl
@[simp] theorem State.modSlot_engine (s : State) (i : SlotNo) (f : Slot → Slot) (k' : EngineNo) :
    (s.modSlot i f).engine k' = s.engine k' := rfl
@[simp] theorem State.modQueue_slot (s : State) (i : SlotNo) (f : Queue → Queue) (j : SlotNo) :
    (s.modQueue i f).slot j = s.slot j := rfl
@[simp] theorem State.modQueue_tap (s : State) (i : SlotNo) (f : Queue → Queue) (j : SlotNo) :
    (s.modQueue i f).tap j = s.tap j := rfl
@[simp] theorem State.modQueue_sense (s : State) (i : SlotNo) (f : Queue → Queue) (j : SlotNo) :
    (s.modQueue i f).sense j = s.sense j := rfl
@[simp] theorem State.modQueue_engine (s : State) (i : SlotNo) (f : Queue → Queue) (k' : EngineNo) :
    (s.modQueue i f).engine k' = s.engine k' := rfl
@[simp] theorem State.modQueue_profile (s : State) (i : SlotNo) (f : Queue → Queue) (j : SlotNo) :
    (s.modQueue i f).profile j = s.profile j := rfl
@[simp] theorem State.modTap_slot (s : State) (i : SlotNo) (f : Tap → Tap) (j : SlotNo) :
    (s.modTap i f).slot j = s.slot j := rfl
@[simp] theorem State.modTap_queue (s : State) (i : SlotNo) (f : Tap → Tap) (j : SlotNo) :
    (s.modTap i f).queue j = s.queue j := rfl
@[simp] theorem State.modTap_sense (s : State) (i : SlotNo) (f : Tap → Tap) (j : SlotNo) :
    (s.modTap i f).sense j = s.sense j := rfl
@[simp] theorem State.modTap_engine (s : State) (i : SlotNo) (f : Tap → Tap) (k' : EngineNo) :
    (s.modTap i f).engine k' = s.engine k' := rfl
@[simp] theorem State.modTap_profile (s : State) (i : SlotNo) (f : Tap → Tap) (j : SlotNo) :
    (s.modTap i f).profile j = s.profile j := rfl
@[simp] theorem State.setEngine_slot (s : State) (k : EngineNo) (m : Option Measure) (j : SlotNo) :
    (s.setEngine k m).slot j = s.slot j := rfl
@[simp] theorem State.setEngine_queue (s : State) (k : EngineNo) (m : Option Measure) (j : SlotNo) :
    (s.setEngine k m).queue j = s.queue j := rfl
@[simp] theorem State.setEngine_tap (s : State) (k : EngineNo) (m : Option Measure) (j : SlotNo) :
    (s.setEngine k m).tap j = s.tap j := rfl
@[simp] theorem State.setEngine_sense (s : State) (k : EngineNo) (m : Option Measure) (j : SlotNo) :
    (s.setEngine k m).sense j = s.sense j := rfl
@[simp] theorem State.setEngine_profile (s : State) (k : EngineNo) (m : Option Measure) (j : SlotNo) :
    (s.setEngine k m).profile j = s.profile j := rfl
@[simp] theorem State.modOut_slot (s : State) (f : Output → Output) (j : SlotNo) :
    (s.modOut f).slot j = s.slot j := rfl
@[simp] theorem State.modOut_queue (s : State) (f : Output → Output) (j : SlotNo) :
    (s.modOut f).queue j = s.queue j := rfl
@[simp] theorem State.modOut_tap (s : State) (f : Output → Output) (j : SlotNo) : (s.modOut f).tap j = s.tap j := rfl
@[simp] theorem State.modOut_sense (s : State) (f : Output → Output) (j : SlotNo) :
    (s.modOut f).sense j = s.sense j := rfl
@[simp] theorem State.modOut_engine (s : State) (f : Output → Output) (k' : EngineNo) :
    (s.modOut f).engine k' = s.engine k' := rfl
@[simp] theorem State.modOut_profile (s : State) (f : Output → Output) (j : SlotNo) :
    (s.modOut f).profile j = s.profile j := rfl
@[simp] theorem State.modSupply_slot (s : State) (f : Supply → Supply) (j : SlotNo) :
    (s.modSupply f).slot j = s.slot j := rfl
@[simp] theorem State.modSupply_queue (s : State) (f : Supply → Supply) (j : SlotNo) :
    (s.modSupply f).queue j = s.queue j := rfl
@[simp] theorem State.modSupply_tap (s : State) (f : Supply → Supply) (j : SlotNo) :
    (s.modSupply f).tap j = s.tap j := rfl
@[simp] theorem State.modSupply_sense (s : State) (f : Supply → Supply) (j : SlotNo) :
    (s.modSupply f).sense j = s.sense j := rfl
@[simp] theorem State.modSupply_engine (s : State) (f : Supply → Supply) (k' : EngineNo) :
    (s.modSupply f).engine k' = s.engine k' := rfl
@[simp] theorem State.modSupply_profile (s : State) (f : Supply → Supply) (j : SlotNo) :
    (s.modSupply f).profile j = s.profile j := rfl
@[simp] theorem State.modChange_slot (s : State) (f : Change → Change) (j : SlotNo) :
    (s.modChange f).slot j = s.slot j := rfl
@[simp] theorem State.modChange_queue (s : State) (f : Change → Change) (j : SlotNo) :
    (s.modChange f).queue j = s.queue j := rfl
@[simp] theorem State.modChange_tap (s : State) (f : Change → Change) (j : SlotNo) :
    (s.modChange f).tap j = s.tap j := rfl
@[simp] theorem State.modChange_sense (s : State) (f : Change → Change) (j : SlotNo) :
    (s.modChange f).sense j = s.sense j := rfl
@[simp] theorem State.modChange_engine (s : State) (f : Change → Change) (k' : EngineNo) :
    (s.modChange f).engine k' = s.engine k' := rfl
@[simp] theorem State.modChange_profile (s : State) (f : Change → Change) (j : SlotNo) :
    (s.modChange f).profile j = s.profile j := rfl
@[simp] theorem State.modControls_slot (s : State) (f : Controls → Controls) (j : SlotNo) :
    (s.modControls f).slot j = s.slot j := rfl
@[simp] theorem State.modControls_queue (s : State) (f : Controls → Controls) (j : SlotNo) :
    (s.modControls f).queue j = s.queue j := rfl
@[simp] theorem State.modControls_tap (s : State) (f : Controls → Controls) (j : SlotNo) :
    (s.modControls f).tap j = s.tap j := rfl
@[simp] theorem State.modControls_sense (s : State) (f : Controls → Controls) (j : SlotNo) :
    (s.modControls f).sense j = s.sense j := rfl
@[simp] theorem State.modControls_engine (s : State) (f : Controls → Controls) (k' : EngineNo) :
    (s.modControls f).engine k' = s.engine k' := rfl
@[simp] theorem State.modControls_profile (s : State) (f : Controls → Controls) (j : SlotNo) :
    (s.modControls f).profile j = s.profile j := rfl
@[simp] theorem State.modCoin_slot (s : State) (f : CoinUnit → CoinUnit) (j : SlotNo) :
    (s.modCoin f).slot j = s.slot j := rfl
@[simp] theorem State.modCoin_queue (s : State) (f : CoinUnit → CoinUnit) (j : SlotNo) :
    (s.modCoin f).queue j = s.queue j := rfl
@[simp] theorem State.modCoin_tap (s : State) (f : CoinUnit → CoinUnit) (j : SlotNo) :
    (s.modCoin f).tap j = s.tap j := rfl
@[simp] theorem State.modCoin_sense (s : State) (f : CoinUnit → CoinUnit) (j : SlotNo) :
    (s.modCoin f).sense j = s.sense j := rfl
@[simp] theorem State.modCoin_engine (s : State) (f : CoinUnit → CoinUnit) (k' : EngineNo) :
    (s.modCoin f).engine k' = s.engine k' := rfl
@[simp] theorem State.modCoin_profile (s : State) (f : CoinUnit → CoinUnit) (j : SlotNo) :
    (s.modCoin f).profile j = s.profile j := rfl
@[simp] theorem State.modSampler_slot (s : State) (f : Sampler → Sampler) (j : SlotNo) :
    (s.modSampler f).slot j = s.slot j := rfl
@[simp] theorem State.modSampler_queue (s : State) (f : Sampler → Sampler) (j : SlotNo) :
    (s.modSampler f).queue j = s.queue j := rfl
@[simp] theorem State.modSampler_tap (s : State) (f : Sampler → Sampler) (j : SlotNo) :
    (s.modSampler f).tap j = s.tap j := rfl
@[simp] theorem State.modSampler_sense (s : State) (f : Sampler → Sampler) (j : SlotNo) :
    (s.modSampler f).sense j = s.sense j := rfl
@[simp] theorem State.modSampler_engine (s : State) (f : Sampler → Sampler) (k' : EngineNo) :
    (s.modSampler f).engine k' = s.engine k' := rfl
@[simp] theorem State.modSampler_profile (s : State) (f : Sampler → Sampler) (j : SlotNo) :
    (s.modSampler f).profile j = s.profile j := rfl
@[simp] theorem State.modTester_slot (s : State) (f : Tester → Tester) (j : SlotNo) :
    (s.modTester f).slot j = s.slot j := rfl
@[simp] theorem State.modTester_queue (s : State) (f : Tester → Tester) (j : SlotNo) :
    (s.modTester f).queue j = s.queue j := rfl
@[simp] theorem State.modTester_tap (s : State) (f : Tester → Tester) (j : SlotNo) :
    (s.modTester f).tap j = s.tap j := rfl
@[simp] theorem State.modTester_sense (s : State) (f : Tester → Tester) (j : SlotNo) :
    (s.modTester f).sense j = s.sense j := rfl
@[simp] theorem State.modTester_engine (s : State) (f : Tester → Tester) (k' : EngineNo) :
    (s.modTester f).engine k' = s.engine k' := rfl
@[simp] theorem State.modTester_profile (s : State) (f : Tester → Tester) (j : SlotNo) :
    (s.modTester f).profile j = s.profile j := rfl
@[simp] theorem State.modLink_slot (s : State) (f : Link → Link) (j : SlotNo) : (s.modLink f).slot j = s.slot j := rfl
@[simp] theorem State.modLink_queue (s : State) (f : Link → Link) (j : SlotNo) :
    (s.modLink f).queue j = s.queue j := rfl
@[simp] theorem State.modLink_tap (s : State) (f : Link → Link) (j : SlotNo) : (s.modLink f).tap j = s.tap j := rfl
@[simp] theorem State.modLink_sense (s : State) (f : Link → Link) (j : SlotNo) :
    (s.modLink f).sense j = s.sense j := rfl
@[simp] theorem State.modLink_engine (s : State) (f : Link → Link) (k' : EngineNo) :
    (s.modLink f).engine k' = s.engine k' := rfl
@[simp] theorem State.modLink_profile (s : State) (f : Link → Link) (j : SlotNo) :
    (s.modLink f).profile j = s.profile j := rfl
@[simp] theorem State.push_slot (s : State) (ts : List Task) (j : SlotNo) : (s.push ts).slot j = s.slot j := rfl
@[simp] theorem State.push_queue (s : State) (ts : List Task) (j : SlotNo) : (s.push ts).queue j = s.queue j := rfl
@[simp] theorem State.push_tap (s : State) (ts : List Task) (j : SlotNo) : (s.push ts).tap j = s.tap j := rfl
@[simp] theorem State.push_sense (s : State) (ts : List Task) (j : SlotNo) : (s.push ts).sense j = s.sense j := rfl
@[simp] theorem State.push_engine (s : State) (ts : List Task) (k' : EngineNo) :
    (s.push ts).engine k' = s.engine k' := rfl
@[simp] theorem State.push_profile (s : State) (ts : List Task) (j : SlotNo) :
    (s.push ts).profile j = s.profile j := rfl

end Sys2Proof.Machine
end

