-- ==== Sys2Proof/Laws/Frame.lean ====
section
/-! SUPPORT. Frames: for each operation one lemma that names those of the fields coin, chg, pending, out and queues that it
leaves alone. -/

namespace Sys2Proof.Machine

@[simp] theorem State.enqueue_frame (s : State) (m : Message) :
    (s.enqueue m).coin = s.coin ∧ (s.enqueue m).chg = s.chg ∧ (s.enqueue m).pending = s.pending ∧
      (s.enqueue m).out = s.out ∧ (s.enqueue m).queues = s.queues := ⟨rfl, rfl, rfl, rfl, rfl⟩
@[simp] theorem State.complete_frame (s : State) (tag : Byte) (body : List Byte) :
    (s.complete tag body).coin = s.coin ∧ (s.complete tag body).chg = s.chg ∧
      (s.complete tag body).pending = s.pending ∧ (s.complete tag body).out = s.out ∧
      (s.complete tag body).queues = s.queues := by
  unfold State.complete; split <;> simp
@[simp] theorem State.reply_frame (s : State) (kind tag : Byte) (body : List Byte) :
    (s.reply kind tag body).coin = s.coin ∧ (s.reply kind tag body).chg = s.chg ∧
      (s.reply kind tag body).pending = s.pending ∧ (s.reply kind tag body).out = s.out ∧
      (s.reply kind tag body).queues = s.queues := ⟨rfl, rfl, rfl, rfl, rfl⟩
@[simp] theorem State.notice_frame (s : State) (k : NoticeKey) (body : List Byte) :
    (s.notice k body).coin = s.coin ∧ (s.notice k body).chg = s.chg ∧ (s.notice k body).pending = s.pending ∧
      (s.notice k body).out = s.out ∧ (s.notice k body).queues = s.queues := by
  unfold State.notice; split <;> simp
@[simp] theorem State.slotNotice_frame (s : State) (i : SlotNo) :
    (s.slotNotice i).coin = s.coin ∧ (s.slotNotice i).chg = s.chg ∧ (s.slotNotice i).pending = s.pending ∧
      (s.slotNotice i).out = s.out ∧ (s.slotNotice i).queues = s.queues := by
  simp [State.slotNotice]
@[simp] theorem State.outNotice_frame (s : State) (cause : OutCause) :
    (s.outNotice cause).coin = s.coin ∧ (s.outNotice cause).chg = s.chg ∧ (s.outNotice cause).pending = s.pending ∧
      (s.outNotice cause).out = s.out ∧ (s.outNotice cause).queues = s.queues := by
  simp [State.outNotice]
@[simp] theorem State.coinNotice_frame (s : State) (cause : CoinCause) :
    (s.coinNotice cause).coin = s.coin ∧ (s.coinNotice cause).chg = s.chg ∧
      (s.coinNotice cause).pending = s.pending ∧ (s.coinNotice cause).out = s.out ∧
      (s.coinNotice cause).queues = s.queues := by
  simp [State.coinNotice]
@[simp] theorem State.supplyNotice_frame (s : State) :
    s.supplyNotice.coin = s.coin ∧ s.supplyNotice.chg = s.chg ∧ s.supplyNotice.pending = s.pending ∧
      s.supplyNotice.out = s.out ∧ s.supplyNotice.queues = s.queues := by
  simp [State.supplyNotice]
@[simp] theorem State.toBridge_frame (s : State) :
    s.toBridge.coin = s.coin ∧ s.toBridge.chg = s.chg ∧ s.toBridge.pending = s.pending ∧
      s.toBridge.queues = s.queues := ⟨rfl, rfl, rfl, rfl⟩
@[simp] theorem State.setState_frame (s : State) (i : SlotNo) (st : SlotState) :
    (s.setState i st).coin = s.coin ∧ (s.setState i st).chg = s.chg ∧ (s.setState i st).pending = s.pending ∧
      (s.setState i st).out = s.out ∧ (s.setState i st).queues = s.queues := by
  unfold State.setState; split <;> simp
@[simp] theorem State.faultSlot_frame (s : State) (i : SlotNo) (r : Result) :
    (s.faultSlot i r).coin = s.coin ∧ (s.faultSlot i r).chg = s.chg ∧ (s.faultSlot i r).pending = s.pending ∧
      (s.faultSlot i r).out = s.out ∧ (s.faultSlot i r).queues = s.queues := by
  simp [State.faultSlot]
@[simp] theorem State.settleTo_frame (s : State) (i : SlotNo) (st : SlotState) :
    (s.settleTo i st).coin = s.coin ∧ (s.settleTo i st).chg = s.chg ∧ (s.settleTo i st).pending = s.pending ∧
      (s.settleTo i st).out = s.out ∧ (s.settleTo i st).queues = s.queues := by
  unfold State.settleTo; split <;> simp
@[simp] theorem State.activate_frame (s : State) (i : SlotNo) :
    (s.activate i).coin = s.coin ∧ (s.activate i).chg = s.chg ∧ (s.activate i).pending = s.pending ∧
      (s.activate i).out = s.out ∧ (s.activate i).queues = s.queues := by
  unfold State.activate; split <;> simp
@[simp] theorem State.settleVerdict_frame (s : State) (i : SlotNo) (v : Verdict) :
    (s.settleVerdict i v).coin = s.coin ∧ (s.settleVerdict i v).chg = s.chg ∧
      (s.settleVerdict i v).pending = s.pending ∧ (s.settleVerdict i v).out = s.out ∧
      (s.settleVerdict i v).queues = s.queues := by
  unfold State.settleVerdict; (repeat' split) <;> simp
@[simp] theorem State.applyProbe_frame (s : State) (i : SlotNo) (p : ProbeRecord) :
    (s.applyProbe i p).coin = s.coin ∧ (s.applyProbe i p).chg = s.chg ∧ (s.applyProbe i p).pending = s.pending ∧
      (s.applyProbe i p).out = s.out ∧ (s.applyProbe i p).queues = s.queues := by
  simp [State.applyProbe]
@[simp] theorem State.grantTo_frame (s : State) (i : SlotNo) :
    (s.grantTo i).coin = s.coin ∧ (s.grantTo i).chg = s.chg ∧ (s.grantTo i).pending = s.pending ∧
      (s.grantTo i).out = s.out ∧ (s.grantTo i).queues = s.queues := by
  simp [State.grantTo]
@[simp] theorem State.grantTest_frame (s : State) :
    s.grantTest.coin = s.coin ∧ s.grantTest.chg = s.chg ∧ s.grantTest.pending = s.pending ∧
      s.grantTest.out = s.out ∧ s.grantTest.queues = s.queues := by
  unfold State.grantTest; (repeat' split) <;> simp
@[simp] theorem State.joinWait_frame (s : State) (i : SlotNo) :
    (s.joinWait i).coin = s.coin ∧ (s.joinWait i).chg = s.chg ∧ (s.joinWait i).pending = s.pending ∧
      (s.joinWait i).out = s.out ∧ (s.joinWait i).queues = s.queues := by
  simp [State.joinWait]
@[simp] theorem State.leaveWait_frame (s : State) (i : SlotNo) :
    (s.leaveWait i).coin = s.coin ∧ (s.leaveWait i).chg = s.chg ∧ (s.leaveWait i).pending = s.pending ∧
      (s.leaveWait i).out = s.out ∧ (s.leaveWait i).queues = s.queues := ⟨rfl, rfl, rfl, rfl, rfl⟩
@[simp] theorem State.releasePermit_frame (s : State) (i : SlotNo) :
    (s.releasePermit i).coin = s.coin ∧ (s.releasePermit i).chg = s.chg ∧ (s.releasePermit i).pending = s.pending ∧
      (s.releasePermit i).out = s.out ∧ (s.releasePermit i).queues = s.queues := by
  unfold State.releasePermit; split <;> simp
@[simp] theorem State.openSwitch_frame (s : State) (i : SlotNo) :
    (s.openSwitch i).coin = s.coin ∧ (s.openSwitch i).chg = s.chg ∧ (s.openSwitch i).pending = s.pending ∧
      (s.openSwitch i).out = s.out ∧ (s.openSwitch i).queues = s.queues := ⟨rfl, rfl, rfl, rfl, rfl⟩
@[simp] theorem State.outgoingOpened_frame (s : State) (i : SlotNo) :
    (s.outgoingOpened i).coin = s.coin ∧ (s.outgoingOpened i).chg = s.chg ∧
      (s.outgoingOpened i).pending = s.pending ∧ (s.outgoingOpened i).queues = s.queues := by
  unfold State.outgoingOpened; (repeat' split) <;> simp
@[simp] theorem State.powerDown_frame (s : State) (i : SlotNo) :
    (s.powerDown i).coin = s.coin ∧ (s.powerDown i).chg = s.chg ∧ (s.powerDown i).pending = s.pending ∧
      (s.powerDown i).queues = s.queues := by
  simp [State.powerDown]
@[simp] theorem State.powerOff_frame (s : State) (i : SlotNo) :
    (s.powerOff i).coin = s.coin ∧ (s.powerOff i).chg = s.chg ∧ (s.powerOff i).pending = s.pending ∧
      (s.powerOff i).queues = s.queues := by
  unfold State.powerOff; (repeat' split) <;> simp
@[simp] theorem State.markRest_frame (s : State) (i : SlotNo) (b : Bool) :
    (s.markRest i b).coin = s.coin ∧ (s.markRest i b).chg = s.chg ∧ (s.markRest i b).pending = s.pending ∧
      (s.markRest i b).out = s.out ∧ (s.markRest i b).queues = s.queues := ⟨rfl, rfl, rfl, rfl, rfl⟩
@[simp] theorem State.powerOn_frame (s : State) (i : SlotNo) :
    (s.powerOn i).coin = s.coin ∧ (s.powerOn i).chg = s.chg ∧ (s.powerOn i).pending = s.pending ∧
      (s.powerOn i).out = s.out ∧ (s.powerOn i).queues = s.queues := by
  unfold State.powerOn; (repeat' split) <;> simp
@[simp] theorem State.restEnds_frame (s : State) (i : SlotNo) :
    (s.restEnds i).coin = s.coin ∧ (s.restEnds i).chg = s.chg ∧ (s.restEnds i).pending = s.pending ∧
      (s.restEnds i).out = s.out ∧ (s.restEnds i).queues = s.queues := by
  unfold State.restEnds; dsimp only; (repeat' split) <;> simp
@[simp] theorem State.warmUpEnds_frame (s : State) (i : SlotNo) :
    (s.warmUpEnds i).coin = s.coin ∧ (s.warmUpEnds i).chg = s.chg ∧ (s.warmUpEnds i).pending = s.pending ∧
      (s.warmUpEnds i).out = s.out ∧ (s.warmUpEnds i).queues = s.queues := by
  simp [State.warmUpEnds]
@[simp] theorem State.shedTest_frame (s : State) (i : SlotNo) :
    (s.shedTest i).coin = s.coin ∧ (s.shedTest i).chg = s.chg ∧ (s.shedTest i).pending = s.pending ∧
      (s.shedTest i).queues = s.queues := by
  unfold State.shedTest; split <;> simp
@[simp] theorem State.clearShed_frame (s : State) (x : Option SlotNo) :
    (s.clearShed x).coin = s.coin ∧ (s.clearShed x).chg = s.chg ∧ (s.clearShed x).pending = s.pending ∧
      (s.clearShed x).out = s.out ∧ (s.clearShed x).queues = s.queues := by
  cases x <;> simp [State.clearShed]
@[simp] theorem State.takeHead_frame (s : State) (k : EngineNo) :
    (s.takeHead k).coin = s.coin ∧ (s.takeHead k).chg = s.chg ∧ (s.takeHead k).pending = s.pending ∧
      (s.takeHead k).out = s.out ∧ (s.takeHead k).queues = s.queues := by
  unfold State.takeHead; split <;> simp
@[simp] theorem State.takeEngines_frame (s : State) :
    s.takeEngines.coin = s.coin ∧ s.takeEngines.chg = s.chg ∧ s.takeEngines.pending = s.pending ∧
      s.takeEngines.out = s.out ∧ s.takeEngines.queues = s.queues := by
  simp [State.takeEngines]
@[simp] theorem State.placeWork_frame (s : State) (i : SlotNo) :
    (s.placeWork i).coin = s.coin ∧ (s.placeWork i).chg = s.chg ∧ (s.placeWork i).pending = s.pending ∧
      (s.placeWork i).out = s.out ∧ (s.placeWork i).queues = s.queues := by
  simp [State.placeWork]
@[simp] theorem State.placeOutput_frame (s : State) (i : SlotNo) :
    (s.placeOutput i).coin = s.coin ∧ (s.placeOutput i).chg = s.chg ∧ (s.placeOutput i).pending = s.pending ∧
      (s.placeOutput i).out = s.out ∧ (s.placeOutput i).queues = s.queues := by
  unfold State.placeOutput; split <;> simp
@[simp] theorem State.stopOn_frame (s : State) (k : EngineNo) (r : ProbeRequest) :
    (s.stopOn k r).coin = s.coin ∧ (s.stopOn k r).chg = s.chg ∧ (s.stopOn k r).pending = s.pending ∧
      (s.stopOn k r).out = s.out ∧ (s.stopOn k r).queues = s.queues := by
  unfold State.stopOn; split <;> simp
@[simp] theorem State.releaseOn_frame (s : State) (k : EngineNo) (r : ProbeRequest) :
    (s.releaseOn k r).coin = s.coin ∧ (s.releaseOn k r).chg = s.chg ∧ (s.releaseOn k r).pending = s.pending ∧
      (s.releaseOn k r).out = s.out ∧ (s.releaseOn k r).queues = s.queues := by
  unfold State.releaseOn; split <;> simp
@[simp] theorem State.stopWork_frame (s : State) (i : SlotNo) :
    (s.stopWork i).coin = s.coin ∧ (s.stopWork i).chg = s.chg ∧ (s.stopWork i).pending = s.pending ∧
      (s.stopWork i).out = s.out ∧ (s.stopWork i).queues = s.queues := by
  simp [State.stopWork]
@[simp] theorem State.releaseRequest_frame (s : State) (r : ProbeRequest) :
    (s.releaseRequest r).coin = s.coin ∧ (s.releaseRequest r).chg = s.chg ∧
      (s.releaseRequest r).pending = s.pending ∧ (s.releaseRequest r).out = s.out ∧
      (s.releaseRequest r).queues = s.queues := by
  simp [State.releaseRequest]
@[simp] theorem State.withdrawOutput_frame (s : State) (i : SlotNo) :
    (s.withdrawOutput i).coin = s.coin ∧ (s.withdrawOutput i).chg = s.chg ∧
      (s.withdrawOutput i).pending = s.pending ∧ (s.withdrawOutput i).out = s.out ∧
      (s.withdrawOutput i).queues = s.queues := by
  simp [State.withdrawOutput]
@[simp] theorem State.endProbe_frame (s : State) (k : EngineNo) (p : ProbeRecord) :
    (s.endProbe k p).coin = s.coin ∧ (s.endProbe k p).chg = s.chg ∧ (s.endProbe k p).pending = s.pending ∧
      (s.endProbe k p).out = s.out ∧ (s.endProbe k p).queues = s.queues := by
  unfold State.endProbe; (repeat' split) <;> simp
@[simp] theorem State.probeStep_frame (s : State) (k : EngineNo) (x : ProbeStep) :
    (s.probeStep k x).coin = s.coin ∧ (s.probeStep k x).chg = s.chg ∧ (s.probeStep k x).pending = s.pending ∧
      (s.probeStep k x).out = s.out ∧ (s.probeStep k x).queues = s.queues := by
  cases x <;> simp [State.probeStep]
@[simp] theorem State.engineLine_frame (s : State) (k : EngineNo) (opens : Bool) :
    (s.engineLine k opens).coin = s.coin ∧ (s.engineLine k opens).chg = s.chg ∧ (s.engineLine k opens).pending = s.pending ∧
      (s.engineLine k opens).out = s.out ∧ (s.engineLine k opens).queues = s.queues := by
  unfold State.engineLine; split <;> simp
@[simp] theorem State.engineFrame_frame (s : State) (k : EngineNo) (coincident : Bool) :
    (s.engineFrame k coincident).coin = s.coin ∧ (s.engineFrame k coincident).chg = s.chg ∧
      (s.engineFrame k coincident).pending = s.pending ∧ (s.engineFrame k coincident).out = s.out ∧
      (s.engineFrame k coincident).queues = s.queues := by
  unfold State.engineFrame; split <;> simp
@[simp] theorem State.frameWatchEnds_frame (s : State) (k : EngineNo) :
    (s.frameWatchEnds k).coin = s.coin ∧ (s.frameWatchEnds k).chg = s.chg ∧
      (s.frameWatchEnds k).pending = s.pending ∧ (s.frameWatchEnds k).out = s.out ∧
      (s.frameWatchEnds k).queues = s.queues := by
  unfold State.frameWatchEnds; split <;> simp
@[simp] theorem State.lineOverflows_frame (s : State) (k : EngineNo) :
    (s.lineOverflows k).coin = s.coin ∧ (s.lineOverflows k).chg = s.chg ∧ (s.lineOverflows k).pending = s.pending ∧
      (s.lineOverflows k).out = s.out ∧ (s.lineOverflows k).queues = s.queues := by
  unfold State.lineOverflows; (repeat' split) <;> simp
@[simp] theorem State.releaseWork_frame (s : State) (i : SlotNo) :
    (s.releaseWork i).coin = s.coin ∧ (s.releaseWork i).chg = s.chg ∧ (s.releaseWork i).pending = s.pending ∧
      (s.releaseWork i).out = s.out ∧ (s.releaseWork i).queues = s.queues := by
  simp [State.releaseWork]
@[simp] theorem State.beginTest_frame (s : State) (i : SlotNo) :
    (s.beginTest i).coin = s.coin ∧ (s.beginTest i).chg = s.chg ∧ (s.beginTest i).pending = s.pending ∧
      (s.beginTest i).out = s.out ∧ (s.beginTest i).queues = s.queues := by
  unfold State.beginTest; split <;> simp
@[simp] theorem State.askTester_frame (s : State) (i : SlotNo) :
    (s.askTester i).coin = s.coin ∧ (s.askTester i).chg = s.chg ∧ (s.askTester i).pending = s.pending ∧
      (s.askTester i).out = s.out ∧ (s.askTester i).queues = s.queues := by
  unfold State.askTester; split <;> simp
@[simp] theorem State.handTester_frame (s : State) :
    s.handTester.coin = s.coin ∧ s.handTester.chg = s.chg ∧ s.handTester.pending = s.pending ∧
      s.handTester.out = s.out ∧ s.handTester.queues = s.queues := by
  unfold State.handTester; dsimp only; (repeat' split) <;> simp
@[simp] theorem State.leaveTester_frame (s : State) (i : SlotNo) :
    (s.leaveTester i).coin = s.coin ∧ (s.leaveTester i).chg = s.chg ∧ (s.leaveTester i).pending = s.pending ∧
      (s.leaveTester i).out = s.out ∧ (s.leaveTester i).queues = s.queues := ⟨rfl, rfl, rfl, rfl, rfl⟩
@[simp] theorem State.leaveTesting_frame (s : State) (i : SlotNo) :
    (s.leaveTesting i).coin = s.coin ∧ (s.leaveTesting i).chg = s.chg ∧ (s.leaveTesting i).pending = s.pending ∧
      (s.leaveTesting i).out = s.out ∧ (s.leaveTesting i).queues = s.queues := by
  simp [State.leaveTesting]
@[simp] theorem State.freeTester_frame (s : State) (v : TestVerdict) :
    (s.freeTester v).coin = s.coin ∧ (s.freeTester v).chg = s.chg ∧ (s.freeTester v).pending = s.pending ∧
      (s.freeTester v).out = s.out ∧ (s.freeTester v).queues = s.queues := ⟨rfl, rfl, rfl, rfl, rfl⟩
@[simp] theorem State.stopTest_frame (s : State) :
    s.stopTest.coin = s.coin ∧ s.stopTest.chg = s.chg ∧ s.stopTest.pending = s.pending ∧
      s.stopTest.out = s.out ∧ s.stopTest.queues = s.queues := ⟨rfl, rfl, rfl, rfl, rfl⟩
@[simp] theorem State.patternEnds_frame (s : State) (r : TestRun) (high : Lines) :
    (s.patternEnds r high).coin = s.coin ∧ (s.patternEnds r high).chg = s.chg ∧
      (s.patternEnds r high).pending = s.pending ∧ (s.patternEnds r high).out = s.out ∧
      (s.patternEnds r high).queues = s.queues := by
  unfold State.patternEnds; dsimp only; (repeat' split) <;> simp
@[simp] theorem State.turn_frame (s : State) (i : SlotNo) :
    (s.turn i).coin = s.coin ∧ (s.turn i).chg = s.chg ∧ (s.turn i).pending = s.pending := by
  unfold State.turn; dsimp only; (repeat' split) <;> simp
@[simp] theorem State.beginProbe_frame (s : State) (i : SlotNo) :
    (s.beginProbe i).coin = s.coin ∧ (s.beginProbe i).chg = s.chg ∧ (s.beginProbe i).pending = s.pending ∧
      (s.beginProbe i).out = s.out ∧ (s.beginProbe i).queues = s.queues := by
  unfold State.beginProbe; split <;> simp
@[simp] theorem State.startStep_frame (s : State) (i : SlotNo) (x : WorkStep) :
    (s.startStep i x).coin = s.coin ∧ (s.startStep i x).chg = s.chg ∧ (s.startStep i x).pending = s.pending := by
  cases x <;> simp [State.startStep]
@[simp] theorem State.clearRestart_frame (s : State) (i : SlotNo) :
    (s.clearRestart i).coin = s.coin ∧ (s.clearRestart i).chg = s.chg ∧ (s.clearRestart i).pending = s.pending ∧
      (s.clearRestart i).out = s.out ∧ (s.clearRestart i).queues = s.queues := ⟨rfl, rfl, rfl, rfl, rfl⟩
@[simp] theorem State.endEntry_frame (s : State) (i : SlotNo) (who : Runner) (e : Entry) (r : Result) (p : Option ProbeRecord) :
    (s.endEntry i who e r p).coin = s.coin ∧ (s.endEntry i who e r p).chg = s.chg ∧
      (s.endEntry i who e r p).pending = s.pending ∧ (s.endEntry i who e r p).out = s.out := by
  unfold State.endEntry; split <;> simp
@[simp] theorem State.beginBare_frame (s : State) (i : SlotNo) (e : Entry) :
    (s.beginBare i e).coin = s.coin ∧ (s.beginBare i e).chg = s.chg ∧ (s.beginBare i e).pending = s.pending ∧
      (s.beginBare i e).out = s.out := by
  unfold State.beginBare; dsimp only; split <;> simp
@[simp] theorem State.beginStep_frame (s : State) (i : SlotNo) :
    (s.beginStep i).coin = s.coin ∧ (s.beginStep i).chg = s.chg ∧ (s.beginStep i).pending = s.pending := by
  unfold State.beginStep; (repeat' split) <;> simp
@[simp] theorem State.stepEnds_frame (s : State) (i : SlotNo) (r : Result) (p : Option ProbeRecord) :
    (s.stepEnds i r p).coin = s.coin ∧ (s.stepEnds i r p).chg = s.chg ∧ (s.stepEnds i r p).pending = s.pending ∧
      (s.stepEnds i r p).out = s.out := by
  unfold State.stepEnds; dsimp only; (repeat' split) <;> simp
@[simp] theorem State.workProbeDone_frame (s : State) (i : SlotNo) (p : ProbeRecord) :
    (s.workProbeDone i p).coin = s.coin ∧ (s.workProbeDone i p).chg = s.chg ∧
      (s.workProbeDone i p).pending = s.pending ∧ (s.workProbeDone i p).out = s.out ∧
      (s.workProbeDone i p).queues = s.queues := by
  unfold State.workProbeDone; dsimp only; (repeat' split) <;> simp
@[simp] theorem State.leaveProbing_frame (s : State) (i : SlotNo) :
    (s.leaveProbing i).coin = s.coin ∧ (s.leaveProbing i).chg = s.chg ∧ (s.leaveProbing i).pending = s.pending ∧
      (s.leaveProbing i).out = s.out ∧ (s.leaveProbing i).queues = s.queues := by
  unfold State.leaveProbing; split <;> simp
@[simp] theorem State.abortPowerOn_frame (s : State) (i : SlotNo) :
    (s.abortPowerOn i).coin = s.coin ∧ (s.abortPowerOn i).chg = s.chg ∧ (s.abortPowerOn i).pending = s.pending ∧
      (s.abortPowerOn i).out = s.out ∧ (s.abortPowerOn i).queues = s.queues := by
  unfold State.abortPowerOn; split <;> simp
@[simp] theorem State.abortStep_frame (s : State) (i : SlotNo) :
    (s.abortStep i).coin = s.coin ∧ (s.abortStep i).chg = s.chg ∧ (s.abortStep i).pending = s.pending ∧
      (s.abortStep i).out = s.out ∧ (s.abortStep i).queues = s.queues := by
  unfold State.abortStep; (repeat' split) <;> simp
@[simp] theorem State.completeAborted_frame (s : State) (i : SlotNo) (x : List Entry) :
    (s.completeAborted i x).coin = s.coin ∧ (s.completeAborted i x).chg = s.chg ∧
      (s.completeAborted i x).pending = s.pending ∧ (s.completeAborted i x).out = s.out ∧
      (s.completeAborted i x).queues = s.queues := by
  induction x generalizing s with
  | nil => simp [State.completeAborted]
  | cons e rest ih => unfold State.completeAborted; simp only [ih]; split <;> simp
@[simp] theorem State.abortWork_frame (s : State) (i : SlotNo) :
    (s.abortWork i).coin = s.coin ∧ (s.abortWork i).chg = s.chg ∧ (s.abortWork i).pending = s.pending ∧
      (s.abortWork i).out = s.out := by
  unfold State.abortWork; dsimp only; split <;> simp
@[simp] theorem State.placePrepare_frame (s : State) (i : SlotNo) :
    (s.placePrepare i).coin = s.coin ∧ (s.placePrepare i).chg = s.chg ∧ (s.placePrepare i).pending = s.pending ∧
      (s.placePrepare i).out = s.out := ⟨rfl, rfl, rfl, rfl⟩
@[simp] theorem State.convertRestart_frame (s : State) (i : SlotNo) :
    (s.convertRestart i).coin = s.coin ∧ (s.convertRestart i).chg = s.chg ∧
      (s.convertRestart i).pending = s.pending ∧ (s.convertRestart i).out = s.out := ⟨rfl, rfl, rfl, rfl⟩
@[simp] theorem State.removePrepare_frame (s : State) (i : SlotNo) :
    (s.removePrepare i).coin = s.coin ∧ (s.removePrepare i).chg = s.chg ∧ (s.removePrepare i).pending = s.pending ∧
      (s.removePrepare i).out = s.out := by
  unfold State.removePrepare; (repeat' split) <;> simp
@[simp] theorem State.placeRestart_frame (s : State) (i : SlotNo) :
    (s.placeRestart i).coin = s.coin ∧ (s.placeRestart i).chg = s.chg ∧ (s.placeRestart i).pending = s.pending ∧
      (s.placeRestart i).out = s.out := ⟨rfl, rfl, rfl, rfl⟩
@[simp] theorem State.stopRestartStep_frame (s : State) (i : SlotNo) :
    (s.stopRestartStep i).coin = s.coin ∧ (s.stopRestartStep i).chg = s.chg ∧
      (s.stopRestartStep i).pending = s.pending ∧ (s.stopRestartStep i).out = s.out ∧
      (s.stopRestartStep i).queues = s.queues := by
  unfold State.stopRestartStep; (repeat' split) <;> simp
@[simp] theorem State.endRestart_frame (s : State) (i : SlotNo) :
    (s.endRestart i).coin = s.coin ∧ (s.endRestart i).chg = s.chg ∧ (s.endRestart i).pending = s.pending ∧
      (s.endRestart i).out = s.out := by
  unfold State.endRestart; dsimp only; split <;> simp
@[simp] theorem State.beginPulse_frame (s : State) (i : SlotNo) (p : CoinProfile) :
    (s.beginPulse i p).chg = s.chg ∧ (s.beginPulse i p).pending = s.pending ∧ (s.beginPulse i p).out = s.out ∧
      (s.beginPulse i p).queues = s.queues := by
  simp [State.beginPulse]
@[simp] theorem State.payoutTest_frame (s : State) :
    s.payoutTest.chg = s.chg ∧ s.payoutTest.pending = s.pending ∧ s.payoutTest.out = s.out ∧
      s.payoutTest.queues = s.queues := by
  unfold State.payoutTest; (repeat' split) <;> simp
@[simp] theorem State.abandonPulse_frame (s : State) (i : SlotNo) :
    (s.abandonPulse i).chg = s.chg ∧ (s.abandonPulse i).pending = s.pending ∧ (s.abandonPulse i).out = s.out ∧
      (s.abandonPulse i).queues = s.queues := by
  unfold State.abandonPulse; (repeat' split) <;> simp
@[simp] theorem State.pulseOnEnds_frame (s : State) (p : Pulse) :
    (s.pulseOnEnds p).chg = s.chg ∧ (s.pulseOnEnds p).pending = s.pending ∧ (s.pulseOnEnds p).out = s.out ∧
      (s.pulseOnEnds p).queues = s.queues := ⟨rfl, rfl, rfl, rfl⟩
@[simp] theorem State.pulseOffEnds_frame (s : State) :
    s.pulseOffEnds.chg = s.chg ∧ s.pulseOffEnds.pending = s.pending ∧ s.pulseOffEnds.out = s.out ∧
      s.pulseOffEnds.queues = s.queues := ⟨rfl, rfl, rfl, rfl⟩
@[simp] theorem State.bankCoin_frame (s : State) (x : CoinInput) :
    (s.bankCoin x).chg = s.chg ∧ (s.bankCoin x).pending = s.pending ∧ (s.bankCoin x).out = s.out ∧
      (s.bankCoin x).queues = s.queues := by
  simp [State.bankCoin]
@[simp] theorem State.setClosure_frame (s : State) (x : CoinInput) (st : Closure) :
    (s.setClosure x st).chg = s.chg ∧ (s.setClosure x st).pending = s.pending ∧ (s.setClosure x st).out = s.out ∧
      (s.setClosure x st).queues = s.queues := ⟨rfl, rfl, rfl, rfl⟩
@[simp] theorem State.jam_frame (s : State) (x : CoinInput) :
    (s.jam x).chg = s.chg ∧ (s.jam x).pending = s.pending ∧ (s.jam x).out = s.out ∧
      (s.jam x).queues = s.queues := by
  simp [State.jam]
@[simp] theorem State.clearJam_frame (s : State) (x : CoinInput) :
    (s.clearJam x).chg = s.chg ∧ (s.clearJam x).pending = s.pending ∧ (s.clearJam x).out = s.out ∧
      (s.clearJam x).queues = s.queues := by
  simp [State.clearJam]
@[simp] theorem State.coinCloses_frame (s : State) (x : CoinInput) :
    (s.coinCloses x).chg = s.chg ∧ (s.coinCloses x).pending = s.pending ∧ (s.coinCloses x).out = s.out ∧
      (s.coinCloses x).queues = s.queues := ⟨rfl, rfl, rfl, rfl⟩
@[simp] theorem State.coinOpens_frame (s : State) (x : CoinInput) :
    (s.coinOpens x).chg = s.chg ∧ (s.coinOpens x).pending = s.pending ∧ (s.coinOpens x).out = s.out ∧
      (s.coinOpens x).queues = s.queues := by
  unfold State.coinOpens; dsimp only; (repeat' split) <;> simp
@[simp] theorem State.coinSwitch_frame (s : State) (x : CoinInput) (closed : Bool) :
    (s.coinSwitch x closed).chg = s.chg ∧ (s.coinSwitch x closed).pending = s.pending ∧
      (s.coinSwitch x closed).out = s.out ∧ (s.coinSwitch x closed).queues = s.queues := by
  unfold State.coinSwitch; (repeat' split) <;> simp
@[simp] theorem State.coinMaximum_frame (s : State) (x : CoinInput) :
    (s.coinMaximum x).chg = s.chg ∧ (s.coinMaximum x).pending = s.pending ∧ (s.coinMaximum x).out = s.out ∧
      (s.coinMaximum x).queues = s.queues := by
  unfold State.coinMaximum; dsimp only; split <;> simp
@[simp] theorem State.rejudge_frame (s : State) (x : CoinInput) :
    (s.rejudge x).chg = s.chg ∧ (s.rejudge x).pending = s.pending ∧ (s.rejudge x).out = s.out ∧
      (s.rejudge x).queues = s.queues := by
  unfold State.rejudge; dsimp only; split <;> simp
@[simp] theorem State.menuNotice_frame (s : State) :
    s.menuNotice.coin = s.coin ∧ s.menuNotice.chg = s.chg ∧ s.menuNotice.pending = s.pending ∧
      s.menuNotice.out = s.out ∧ s.menuNotice.queues = s.queues := by
  simp [State.menuNotice]
@[simp] theorem State.chordEnds_frame (s : State) :
    s.chordEnds.coin = s.coin ∧ s.chordEnds.chg = s.chg ∧ s.chordEnds.pending = s.pending ∧
      s.chordEnds.out = s.out ∧ s.chordEnds.queues = s.queues := by
  unfold State.chordEnds; split <;> simp
@[simp] theorem State.panelNotice_frame (s : State) :
    s.panelNotice.coin = s.coin ∧ s.panelNotice.chg = s.chg ∧ s.panelNotice.pending = s.pending ∧
      s.panelNotice.out = s.out ∧ s.panelNotice.queues = s.queues := by
  unfold State.panelNotice; split <;> simp
@[simp] theorem State.panelChange_frame (s : State) (n : LineNo) (asserted : Bool) :
    (s.panelChange n asserted).coin = s.coin ∧ (s.panelChange n asserted).chg = s.chg ∧
      (s.panelChange n asserted).pending = s.pending ∧ (s.panelChange n asserted).out = s.out ∧
      (s.panelChange n asserted).queues = s.queues := by
  unfold State.panelChange; split <;> simp
@[simp] theorem State.gridSample_frame (s : State) (red green blue : Bool) :
    (s.gridSample red green blue).coin = s.coin ∧ (s.gridSample red green blue).chg = s.chg ∧
      (s.gridSample red green blue).pending = s.pending ∧ (s.gridSample red green blue).out = s.out ∧
      (s.gridSample red green blue).queues = s.queues := by
  unfold State.gridSample; split <;> simp
@[simp] theorem State.declareStall_frame (s : State) (i : SlotNo) :
    (s.declareStall i).coin = s.coin ∧ (s.declareStall i).chg = s.chg ∧ (s.declareStall i).pending = s.pending ∧
      (s.declareStall i).out = s.out ∧ (s.declareStall i).queues = s.queues := by
  unfold State.declareStall; split <;> simp
@[simp] theorem State.mute_frame (s : State) :
    s.mute.coin = s.coin ∧ s.mute.chg = s.chg ∧ s.mute.pending = s.pending ∧
      s.mute.queues = s.queues := ⟨rfl, rfl, rfl, rfl⟩
@[simp] theorem State.storeLevel_frame (s : State) (i : SlotNo) (level : Nat) :
    (s.storeLevel i level).coin = s.coin ∧ (s.storeLevel i level).chg = s.chg ∧
      (s.storeLevel i level).pending = s.pending ∧ (s.storeLevel i level).out = s.out ∧
      (s.storeLevel i level).queues = s.queues := ⟨rfl, rfl, rfl, rfl, rfl⟩
@[simp] theorem State.storeMap_frame (s : State) (i : SlotNo) (m : InputMap) :
    (s.storeMap i m).coin = s.coin ∧ (s.storeMap i m).chg = s.chg ∧ (s.storeMap i m).pending = s.pending ∧
      (s.storeMap i m).out = s.out ∧ (s.storeMap i m).queues = s.queues := ⟨rfl, rfl, rfl, rfl, rfl⟩
@[simp] theorem State.storeStaged_frame (s : State) (i : SlotNo) :
    (s.storeStaged i).coin = s.coin ∧ (s.storeStaged i).chg = s.chg ∧ (s.storeStaged i).pending = s.pending ∧
      (s.storeStaged i).queues = s.queues := by
  unfold State.storeStaged; (repeat' split) <;> simp
@[simp] theorem State.applyStaged_frame (s : State) (i : SlotNo) :
    (s.applyStaged i).coin = s.coin ∧ (s.applyStaged i).chg = s.chg ∧ (s.applyStaged i).pending = s.pending ∧
      (s.applyStaged i).queues = s.queues := by
  unfold State.applyStaged; split <;> simp
@[simp] theorem State.startWatch_frame (s : State) (i : SlotNo) :
    (s.startWatch i).coin = s.coin ∧ (s.startWatch i).chg = s.chg ∧ (s.startWatch i).pending = s.pending ∧
      (s.startWatch i).queues = s.queues := ⟨rfl, rfl, rfl, rfl⟩
@[simp] theorem State.startSampler_frame (s : State) (i : SlotNo) :
    (s.startSampler i).coin = s.coin ∧ (s.startSampler i).chg = s.chg ∧ (s.startSampler i).pending = s.pending ∧
      (s.startSampler i).out = s.out ∧ (s.startSampler i).queues = s.queues := ⟨rfl, rfl, rfl, rfl, rfl⟩
@[simp] theorem State.leaveSlotSync_frame (s : State) :
    s.leaveSlotSync.coin = s.coin ∧ s.leaveSlotSync.chg = s.chg ∧ s.leaveSlotSync.pending = s.pending ∧
      s.leaveSlotSync.queues = s.queues := by
  unfold State.leaveSlotSync; split <;> simp
@[simp] theorem State.goDark_frame (s : State) (cause : OutCause) :
    (s.goDark cause).coin = s.coin ∧ (s.goDark cause).chg = s.chg ∧ (s.goDark cause).pending = s.pending ∧
      (s.goDark cause).queues = s.queues := by
  unfold State.goDark; split <;> simp
@[simp] theorem State.enterHolding_frame (s : State) (form : HoldForm) (time : Nat) (cause : OutCause) :
    (s.enterHolding form time cause).coin = s.coin ∧ (s.enterHolding form time cause).chg = s.chg ∧
      (s.enterHolding form time cause).pending = s.pending ∧
      (s.enterHolding form time cause).queues = s.queues := by
  simp [State.enterHolding]
@[simp] theorem State.loss_frame (s : State) (i : SlotNo) (cause : OutCause) :
    (s.loss i cause).coin = s.coin ∧ (s.loss i cause).chg = s.chg ∧ (s.loss i cause).pending = s.pending ∧
      (s.loss i cause).queues = s.queues := by
  simp [State.loss]
@[simp] theorem State.stallRestart_frame (s : State) (i : SlotNo) :
    (s.stallRestart i).coin = s.coin ∧ (s.stallRestart i).chg = s.chg ∧ (s.stallRestart i).pending = s.pending := by
  simp [State.stallRestart]
@[simp] theorem State.modHold_frame (s : State) (f : Hold → Hold) :
    (s.modHold f).coin = s.coin ∧ (s.modHold f).chg = s.chg ∧ (s.modHold f).pending = s.pending ∧
      (s.modHold f).queues = s.queues := ⟨rfl, rfl, rfl, rfl⟩
@[simp] theorem State.beginRejoin_frame (s : State) (i : SlotNo) (p : ProbeRecord) (d : Derived) :
    (s.beginRejoin i p d).coin = s.coin ∧ (s.beginRejoin i p d).chg = s.chg ∧
      (s.beginRejoin i p d).pending = s.pending ∧ (s.beginRejoin i p d).queues = s.queues := by
  simp [State.beginRejoin]
@[simp] theorem State.rejoinDecision_frame (s : State) (i : SlotNo) (p : ProbeRecord) (store : Bool) :
    (s.rejoinDecision i p store).coin = s.coin ∧ (s.rejoinDecision i p store).chg = s.chg ∧
      (s.rejoinDecision i p store).pending = s.pending ∧ (s.rejoinDecision i p store).queues = s.queues := by
  unfold State.rejoinDecision; dsimp only; (repeat' split) <;> simp
@[simp] theorem State.stopRejoin_frame (s : State) (probing : Bool) :
    (s.stopRejoin probing).coin = s.coin ∧ (s.stopRejoin probing).chg = s.chg ∧
      (s.stopRejoin probing).pending = s.pending ∧ (s.stopRejoin probing).queues = s.queues := by
  simp [State.stopRejoin]
@[simp] theorem State.outputProbeDone_frame (s : State) (i : SlotNo) (p : ProbeRecord) :
    (s.outputProbeDone i p).coin = s.coin ∧ (s.outputProbeDone i p).chg = s.chg ∧
      (s.outputProbeDone i p).pending = s.pending ∧ (s.outputProbeDone i p).queues = s.queues := by
  unfold State.outputProbeDone; split <;> simp
@[simp] theorem State.restartOutcome_frame (s : State) (i : SlotNo) (r : Result) :
    (s.restartOutcome i r).coin = s.coin ∧ (s.restartOutcome i r).chg = s.chg ∧
      (s.restartOutcome i r).pending = s.pending ∧ (s.restartOutcome i r).queues = s.queues := by
  unfold State.restartOutcome; (repeat' split) <;> simp
@[simp] theorem State.heldCheck_frame (s : State) (i : SlotNo) :
    (s.heldCheck i).coin = s.coin ∧ (s.heldCheck i).chg = s.chg ∧ (s.heldCheck i).pending = s.pending ∧
      (s.heldCheck i).queues = s.queues := by
  unfold State.heldCheck; (repeat' split) <;> simp
@[simp] theorem State.completeRejoin_frame (s : State) (i : SlotNo) :
    (s.completeRejoin i).coin = s.coin ∧ (s.completeRejoin i).chg = s.chg ∧
      (s.completeRejoin i).pending = s.pending ∧ (s.completeRejoin i).queues = s.queues := by
  simp [State.completeRejoin]
@[simp] theorem State.cutTo_frame (s : State) (i : SlotNo) :
    (s.cutTo i).coin = s.coin ∧ (s.cutTo i).chg = s.chg ∧ (s.cutTo i).pending = s.pending ∧
      (s.cutTo i).queues = s.queues := ⟨rfl, rfl, rfl, rfl⟩
@[simp] theorem State.rejoinAlign_frame (s : State) (i : SlotNo) (coincident : Bool) :
    (s.rejoinAlign i coincident).coin = s.coin ∧ (s.rejoinAlign i coincident).chg = s.chg ∧
      (s.rejoinAlign i coincident).pending = s.pending ∧ (s.rejoinAlign i coincident).queues = s.queues := by
  unfold State.rejoinAlign; dsimp only; (repeat' split) <;> simp
@[simp] theorem State.rejoinSettle_frame (s : State) (i : SlotNo) :
    (s.rejoinSettle i).coin = s.coin ∧ (s.rejoinSettle i).chg = s.chg ∧ (s.rejoinSettle i).pending = s.pending ∧
      (s.rejoinSettle i).queues = s.queues := by
  unfold State.rejoinSettle; dsimp only; split <;> simp
@[simp] theorem State.closeFrame_frame (s : State) (i : SlotNo) (coincident : Bool) :
    (s.closeFrame i coincident).coin = s.coin ∧ (s.closeFrame i coincident).chg = s.chg ∧
      (s.closeFrame i coincident).pending = s.pending := by
  unfold State.closeFrame; dsimp only; (repeat' split) <;> simp
@[simp] theorem State.watchFrame_frame (s : State) (i : SlotNo) (coincident : Bool) :
    (s.watchFrame i coincident).coin = s.coin ∧ (s.watchFrame i coincident).chg = s.chg ∧
      (s.watchFrame i coincident).pending = s.pending := by
  unfold State.watchFrame; dsimp only; (repeat' split) <;> simp
@[simp] theorem State.watchLine_frame (s : State) :
    s.watchLine.coin = s.coin ∧ s.watchLine.chg = s.chg ∧ s.watchLine.pending = s.pending ∧
      s.watchLine.queues = s.queues := ⟨rfl, rfl, rfl, rfl⟩
@[simp] theorem State.watchTimerEnds_frame (s : State) :
    s.watchTimerEnds.coin = s.coin ∧ s.watchTimerEnds.chg = s.chg ∧ s.watchTimerEnds.pending = s.pending ∧
      s.watchTimerEnds.queues = s.queues := by
  unfold State.watchTimerEnds; split <;> simp
@[simp] theorem State.expireSlot_frame (s : State) (i : SlotNo) :
    (s.expireSlot i).coin = s.coin ∧ (s.expireSlot i).chg = s.chg ∧ (s.expireSlot i).pending = s.pending ∧
      (s.expireSlot i).out = s.out ∧ (s.expireSlot i).queues = s.queues := by
  unfold State.expireSlot; dsimp only; (repeat' split) <;> simp
@[simp] theorem State.holdExpires_frame (s : State) (i : SlotNo) :
    (s.holdExpires i).coin = s.coin ∧ (s.holdExpires i).chg = s.chg ∧ (s.holdExpires i).pending = s.pending := by
  unfold State.holdExpires; split <;> simp
@[simp] theorem State.holdTimerEnds_frame (s : State) :
    s.holdTimerEnds.coin = s.coin ∧ s.holdTimerEnds.chg = s.chg ∧ s.holdTimerEnds.pending = s.pending := by
  unfold State.holdTimerEnds; split <;> simp
@[simp] theorem State.completeSelect_frame (s : State) (tag : Byte) (slot : Option SlotNo) (outcome step : Result) :
    (s.completeSelect tag slot outcome step).coin = s.coin ∧ (s.completeSelect tag slot outcome step).chg = s.chg ∧
      (s.completeSelect tag slot outcome step).pending = s.pending ∧
      (s.completeSelect tag slot outcome step).out = s.out ∧
      (s.completeSelect tag slot outcome step).queues = s.queues := by
  simp [State.completeSelect]
@[simp] theorem State.removeTargetEntry_frame (s : State) (x : Option SlotNo) :
    (s.removeTargetEntry x).coin = s.coin ∧ (s.removeTargetEntry x).chg = s.chg ∧
      (s.removeTargetEntry x).pending = s.pending ∧ (s.removeTargetEntry x).out = s.out := by
  cases x <;> simp [State.removeTargetEntry]
@[simp] theorem State.failChange_frame (s : State) (reason step : Result) :
    (s.failChange reason step).coin = s.coin ∧ (s.failChange reason step).pending = s.pending := by
  unfold State.failChange; split <;> simp
@[simp] theorem State.endAtNone_frame (s : State) :
    s.endAtNone.coin = s.coin ∧ s.endAtNone.pending = s.pending ∧ s.endAtNone.queues = s.queues := by
  unfold State.endAtNone; split <;> simp
@[simp] theorem State.programBridge_frame (s : State) (d : Derived) :
    (s.programBridge d).coin = s.coin ∧ (s.programBridge d).chg = s.chg ∧ (s.programBridge d).pending = s.pending ∧
      (s.programBridge d).queues = s.queues := ⟨rfl, rfl, rfl, rfl⟩
@[simp] theorem State.reclassify_frame (s : State) (d : Derived) :
    (s.reclassify d).coin = s.coin ∧ (s.reclassify d).pending = s.pending ∧ (s.reclassify d).queues = s.queues := by
  unfold State.reclassify; dsimp only; split <;> simp
@[simp] theorem State.startReclass_frame (s : State) (i : SlotNo) :
    (s.startReclass i).coin = s.coin ∧ (s.startReclass i).pending = s.pending := by
  unfold State.startReclass; dsimp only; (repeat' split) <;> simp
@[simp] theorem State.startPrepare_frame (s : State) (i : SlotNo) :
    (s.startPrepare i).coin = s.coin ∧ (s.startPrepare i).pending = s.pending := by
  unfold State.startPrepare; dsimp only; (repeat' split) <;> simp
@[simp] theorem State.bridgeEnds_frame (s : State) :
    s.bridgeEnds.coin = s.coin ∧ s.bridgeEnds.pending = s.pending := by
  unfold State.bridgeEnds; (repeat' split) <;> simp
@[simp] theorem State.bridgeEnd_frame (s : State) :
    s.bridgeEnd.coin = s.coin ∧ s.bridgeEnd.pending = s.pending := by
  unfold State.bridgeEnd; (repeat' split) <;> simp
@[simp] theorem State.beginBridge_frame (s : State) :
    s.beginBridge.coin = s.coin ∧ s.beginBridge.pending = s.pending := by
  unfold State.beginBridge; split <;> simp
@[simp] theorem State.fadeTest_frame (s : State) :
    s.fadeTest.coin = s.coin ∧ s.fadeTest.pending = s.pending := by
  unfold State.fadeTest; (repeat' split) <;> simp
@[simp] theorem State.bridgeSwitch_frame (s : State) :
    s.bridgeSwitch.coin = s.coin ∧ s.bridgeSwitch.chg = s.chg ∧ s.bridgeSwitch.pending = s.pending ∧
      s.bridgeSwitch.queues = s.queues := ⟨rfl, rfl, rfl, rfl⟩
@[simp] theorem State.prepareOutcome_frame (s : State) (i : SlotNo) (r : Result) :
    (s.prepareOutcome i r).coin = s.coin ∧ (s.prepareOutcome i r).pending = s.pending := by
  unfold State.prepareOutcome; (repeat' split) <;> simp
@[simp] theorem State.releaseOutgoing_frame (s : State) (i : SlotNo) :
    (s.releaseOutgoing i).coin = s.coin ∧ (s.releaseOutgoing i).chg = s.chg ∧
      (s.releaseOutgoing i).pending = s.pending ∧ (s.releaseOutgoing i).out = s.out ∧
      (s.releaseOutgoing i).queues = s.queues := by
  unfold State.releaseOutgoing; (repeat' split) <;> simp
@[simp] theorem State.leaveSource_frame (s : State) :
    s.leaveSource.coin = s.coin ∧ s.leaveSource.chg = s.chg ∧ s.leaveSource.pending = s.pending ∧
      s.leaveSource.queues = s.queues := by
  unfold State.leaveSource; split <;> simp
@[simp] theorem State.leaveHeldSync_frame (s : State) :
    s.leaveHeldSync.coin = s.coin ∧ s.leaveHeldSync.chg = s.chg ∧ s.leaveHeldSync.pending = s.pending ∧
      s.leaveHeldSync.queues = s.queues := by
  unfold State.leaveHeldSync; split <;> simp
@[simp] theorem State.startChangeover_frame (s : State) (sel : Selection) :
    (s.startChangeover sel).coin = s.coin ∧ (s.startChangeover sel).pending = s.pending ∧
      (s.startChangeover sel).queues = s.queues := by
  simp [State.startChangeover]
@[simp] theorem State.startSelection_frame (s : State) (sel : Selection) :
    (s.startSelection sel).coin = s.coin ∧ (s.startSelection sel).pending = s.pending ∧
      (s.startSelection sel).queues = s.queues := by
  unfold State.startSelection; split <;> simp
@[simp] theorem State.retarget_frame (s : State) (sel : Selection) :
    (s.retarget sel).coin = s.coin ∧ (s.retarget sel).pending = s.pending := by
  unfold State.retarget; (repeat' split) <;> simp
@[simp] theorem State.storeReselect_frame (s : State) (sel : Selection) :
    (s.storeReselect sel).coin = s.coin ∧ (s.storeReselect sel).pending = s.pending ∧
      (s.storeReselect sel).out = s.out ∧ (s.storeReselect sel).queues = s.queues := by
  unfold State.storeReselect; (repeat' split) <;> simp
@[simp] theorem State.targetCheck_frame (s : State) :
    s.targetCheck.coin = s.coin ∧ s.targetCheck.pending = s.pending := by
  unfold State.targetCheck; (repeat' split) <;> simp
@[simp] theorem State.startAlign_frame (s : State) :
    s.startAlign.coin = s.coin ∧ s.startAlign.pending = s.pending ∧ s.startAlign.out = s.out ∧
      s.startAlign.queues = s.queues := ⟨rfl, rfl, rfl, rfl⟩
@[simp] theorem State.flagShed_frame (s : State) (source : Option SlotNo) (target : SlotNo) :
    (s.flagShed source target).coin = s.coin ∧ (s.flagShed source target).chg = s.chg ∧
      (s.flagShed source target).pending = s.pending ∧ (s.flagShed source target).queues = s.queues := by
  unfold State.flagShed; dsimp only; (repeat' split) <;> simp
@[simp] theorem State.completeChange_frame (s : State) (i : SlotNo) :
    (s.completeChange i).pending = s.pending ∧ (s.completeChange i).queues = s.queues := by
  unfold State.completeChange; split <;> simp
@[simp] theorem State.changeAlign_frame (s : State) (i : SlotNo) (coincident : Bool) :
    (s.changeAlign i coincident).pending = s.pending ∧ (s.changeAlign i coincident).queues = s.queues := by
  unfold State.changeAlign; dsimp only; (repeat' split) <;> simp
@[simp] theorem State.changeSettle_frame (s : State) (i : SlotNo) :
    (s.changeSettle i).pending = s.pending ∧ (s.changeSettle i).queues = s.queues := by
  unfold State.changeSettle; dsimp only; (repeat' split) <;> simp
@[simp] theorem State.frameStarts_frame (s : State) :
    s.frameStarts.coin = s.coin ∧ s.frameStarts.chg = s.chg ∧ s.frameStarts.pending = s.pending ∧
      s.frameStarts.queues = s.queues := ⟨rfl, rfl, rfl, rfl⟩
@[simp] theorem State.reclassFrame_frame (s : State) :
    s.reclassFrame.coin = s.coin ∧ s.reclassFrame.pending = s.pending ∧ s.reclassFrame.out = s.out ∧
      s.reclassFrame.queues = s.queues := by
  unfold State.reclassFrame; dsimp only; (repeat' split) <;> simp
@[simp] theorem State.reclassDeadline_frame (s : State) :
    s.reclassDeadline.coin = s.coin ∧ s.reclassDeadline.pending = s.pending ∧ s.reclassDeadline.out = s.out ∧
      s.reclassDeadline.queues = s.queues := by
  unfold State.reclassDeadline; (repeat' split) <;> simp
@[simp] theorem State.bridgeTimerEnds_frame (s : State) :
    s.bridgeTimerEnds.coin = s.coin ∧ s.bridgeTimerEnds.chg = s.chg ∧ s.bridgeTimerEnds.pending = s.pending ∧
      s.bridgeTimerEnds.queues = s.queues := by
  unfold State.bridgeTimerEnds; split <;> simp
@[simp] theorem State.prepareTimerEnds_frame (s : State) :
    s.prepareTimerEnds.coin = s.coin ∧ s.prepareTimerEnds.pending = s.pending := by
  unfold State.prepareTimerEnds; split <;> simp
@[simp] theorem State.faultTarget_frame (s : State) (reason : Result) :
    (s.faultTarget reason).coin = s.coin ∧ (s.faultTarget reason).pending = s.pending := by
  unfold State.faultTarget; split <;> simp
@[simp] theorem State.alignTimerEnds_frame (s : State) :
    s.alignTimerEnds.coin = s.coin ∧ s.alignTimerEnds.pending = s.pending := by
  unfold State.alignTimerEnds; split <;> simp
@[simp] theorem State.settleTimerEnds_frame (s : State) :
    s.settleTimerEnds.coin = s.coin ∧ s.settleTimerEnds.pending = s.pending := by
  unfold State.settleTimerEnds; split <;> simp
@[simp] theorem State.tripOutput_frame (s : State) (i : SlotNo) :
    (s.tripOutput i).coin = s.coin ∧ (s.tripOutput i).pending = s.pending := by
  unfold State.tripOutput; (repeat' split) <;> simp
@[simp] theorem State.tripWork_frame (s : State) (i : SlotNo) :
    (s.tripWork i).coin = s.coin ∧ (s.tripWork i).chg = s.chg ∧ (s.tripWork i).pending = s.pending ∧
      (s.tripWork i).out = s.out ∧ (s.tripWork i).queues = s.queues := by
  unfold State.tripWork; dsimp only; (repeat' split) <;> simp
@[simp] theorem State.tripSlot_frame (s : State) (i : SlotNo) :
    (s.tripSlot i).coin = s.coin ∧ (s.tripSlot i).chg = s.chg ∧ (s.tripSlot i).pending = s.pending ∧
      (s.tripSlot i).out = s.out ∧ (s.tripSlot i).queues = s.queues := by
  unfold State.tripSlot; dsimp only; split <;> simp
@[simp] theorem State.pushLast_frame (s : State) (ts : List Task) :
    (s.pushLast ts).coin = s.coin ∧ (s.pushLast ts).chg = s.chg ∧ (s.pushLast ts).pending = s.pending ∧
      (s.pushLast ts).out = s.out ∧ (s.pushLast ts).queues = s.queues := ⟨rfl, rfl, rfl, rfl, rfl⟩
@[simp] theorem State.trip_frame (s : State) (i : SlotNo) :
    (s.trip i).pending = s.pending := by unfold State.trip; split <;> simp
@[simp] theorem State.doTask_frame (s : State) (x : Task) :
    (s.doTask x).pending = s.pending := by cases x <;> simp [State.doTask]
@[simp] theorem State.roleFrame_frame (s : State) (i : SlotNo) (coincident : Bool) (x : Role) :
    (s.roleFrame i coincident x).pending = s.pending := by cases x <;> simp [State.roleFrame]
@[simp] theorem State.roleLine_frame (s : State) (x : Role) :
    (s.roleLine x).coin = s.coin ∧ (s.roleLine x).pending = s.pending ∧ (s.roleLine x).queues = s.queues := by
  cases x <;> simp [State.roleLine]
@[simp] theorem State.refuse_frame (s : State) (kind tag : Byte) (r : Reason) :
    (s.refuse kind tag r).coin = s.coin ∧ (s.refuse kind tag r).chg = s.chg ∧
      (s.refuse kind tag r).pending = s.pending ∧ (s.refuse kind tag r).out = s.out ∧
      (s.refuse kind tag r).queues = s.queues := ⟨rfl, rfl, rfl, rfl, rfl⟩
@[simp] theorem State.takeStatus_frame (s : State) (tag : Byte) :
    (s.takeStatus tag).coin = s.coin ∧ (s.takeStatus tag).chg = s.chg ∧ (s.takeStatus tag).pending = s.pending ∧
      (s.takeStatus tag).out = s.out ∧ (s.takeStatus tag).queues = s.queues := ⟨rfl, rfl, rfl, rfl, rfl⟩
@[simp] theorem State.takeNotify_frame (s : State) (tag set : Byte) :
    (s.takeNotify tag set).coin = s.coin ∧ (s.takeNotify tag set).chg = s.chg ∧
      (s.takeNotify tag set).pending = s.pending ∧ (s.takeNotify tag set).out = s.out ∧
      (s.takeNotify tag set).queues = s.queues := by
  unfold State.takeNotify; split <;> simp
@[simp] theorem State.takeRestart_frame (s : State) (tag : Byte) :
    (s.takeRestart tag).coin = s.coin ∧ (s.takeRestart tag).chg = s.chg ∧ (s.takeRestart tag).pending = s.pending ∧
      (s.takeRestart tag).out = s.out ∧ (s.takeRestart tag).queues = s.queues := ⟨rfl, rfl, rfl, rfl, rfl⟩
@[simp] theorem State.takeSetOutput_frame (s : State) (tag : Byte) (r : RawOutput) :
    (s.takeSetOutput tag r).coin = s.coin ∧ (s.takeSetOutput tag r).chg = s.chg ∧
      (s.takeSetOutput tag r).pending = s.pending ∧ (s.takeSetOutput tag r).out = s.out ∧
      (s.takeSetOutput tag r).queues = s.queues := by
  unfold State.takeSetOutput; split <;> simp
@[simp] theorem State.takeSetCabinet_frame (s : State) (tag : Byte) (r : RawCabinet) :
    (s.takeSetCabinet tag r).chg = s.chg ∧ (s.takeSetCabinet tag r).pending = s.pending ∧
      (s.takeSetCabinet tag r).out = s.out ∧ (s.takeSetCabinet tag r).queues = s.queues := by
  unfold State.takeSetCabinet; split <;> simp
@[simp] theorem State.configure_frame (s : State) (i : SlotNo) (p : Profile) :
    (s.configure i p).coin = s.coin ∧ (s.configure i p).chg = s.chg ∧ (s.configure i p).pending = s.pending ∧
      (s.configure i p).out = s.out ∧ (s.configure i p).queues = s.queues := by
  unfold State.configure; split <;> simp
@[simp] theorem State.disable_frame (s : State) (i : SlotNo) :
    (s.disable i).coin = s.coin ∧ (s.disable i).chg = s.chg ∧ (s.disable i).pending = s.pending ∧
      (s.disable i).out = s.out ∧ (s.disable i).queues = s.queues := by
  simp [State.disable]
@[simp] theorem State.takeSetSlot_frame (s : State) (tag slot flag : Byte) (p : RawProfile) :
    (s.takeSetSlot tag slot flag p).coin = s.coin ∧ (s.takeSetSlot tag slot flag p).chg = s.chg ∧
      (s.takeSetSlot tag slot flag p).pending = s.pending ∧ (s.takeSetSlot tag slot flag p).out = s.out ∧
      (s.takeSetSlot tag slot flag p).queues = s.queues := by
  unfold State.takeSetSlot; (repeat' split) <;> simp
@[simp] theorem State.takeQuerySlot_frame (s : State) (tag slot : Byte) :
    (s.takeQuerySlot tag slot).coin = s.coin ∧ (s.takeQuerySlot tag slot).chg = s.chg ∧
      (s.takeQuerySlot tag slot).pending = s.pending ∧ (s.takeQuerySlot tag slot).out = s.out ∧
      (s.takeQuerySlot tag slot).queues = s.queues := by
  unfold State.takeQuerySlot; split <;> simp
@[simp] theorem State.takeClearDip_frame (s : State) (tag : Byte) :
    (s.takeClearDip tag).coin = s.coin ∧ (s.takeClearDip tag).chg = s.chg ∧
      (s.takeClearDip tag).pending = s.pending ∧ (s.takeClearDip tag).out = s.out ∧
      (s.takeClearDip tag).queues = s.queues := by
  unfold State.takeClearDip; split <;> simp
@[simp] theorem State.takeSetTrim_frame (s : State) (tag slot level : Byte) :
    (s.takeSetTrim tag slot level).coin = s.coin ∧ (s.takeSetTrim tag slot level).chg = s.chg ∧
      (s.takeSetTrim tag slot level).pending = s.pending ∧ (s.takeSetTrim tag slot level).queues = s.queues := by
  unfold State.takeSetTrim; (repeat' split) <;> simp
@[simp] theorem State.takeSetMap_frame (s : State) (tag slot : Byte) (sources : Vector Byte 24) :
    (s.takeSetMap tag slot sources).coin = s.coin ∧ (s.takeSetMap tag slot sources).chg = s.chg ∧
      (s.takeSetMap tag slot sources).pending = s.pending ∧ (s.takeSetMap tag slot sources).queues = s.queues := by
  unfold State.takeSetMap; (repeat' split) <;> simp
@[simp] theorem State.takeSetChord_frame (s : State) (tag : Byte) (r : RawChord) :
    (s.takeSetChord tag r).coin = s.coin ∧ (s.takeSetChord tag r).chg = s.chg ∧
      (s.takeSetChord tag r).pending = s.pending ∧ (s.takeSetChord tag r).out = s.out ∧
      (s.takeSetChord tag r).queues = s.queues := by
  unfold State.takeSetChord; split <;> simp
@[simp] theorem State.takeCapture_frame (s : State) (tag setting : Byte) :
    (s.takeCapture tag setting).coin = s.coin ∧ (s.takeCapture tag setting).chg = s.chg ∧
      (s.takeCapture tag setting).pending = s.pending ∧ (s.takeCapture tag setting).out = s.out ∧
      (s.takeCapture tag setting).queues = s.queues := by
  unfold State.takeCapture; dsimp only; (repeat' split) <;> simp
@[simp] theorem State.takeSlotWork_frame (s : State) (tag slot count : Byte) (steps : Vector RawStep 4) :
    (s.takeSlotWork tag slot count steps).coin = s.coin ∧ (s.takeSlotWork tag slot count steps).chg = s.chg ∧
      (s.takeSlotWork tag slot count steps).pending = s.pending ∧
      (s.takeSlotWork tag slot count steps).out = s.out := by
  unfold State.takeSlotWork; (repeat' split) <;> simp
@[simp] theorem State.takeAbortWork_frame (s : State) (tag slot : Byte) :
    (s.takeAbortWork tag slot).coin = s.coin ∧ (s.takeAbortWork tag slot).chg = s.chg ∧
      (s.takeAbortWork tag slot).pending = s.pending ∧ (s.takeAbortWork tag slot).out = s.out := by
  unfold State.takeAbortWork; split <;> simp
@[simp] theorem State.acceptSelect_frame (s : State) (sel : Selection) :
    (s.acceptSelect sel).coin = s.coin ∧ (s.acceptSelect sel).pending = s.pending := by
  unfold State.acceptSelect; (repeat' split) <;> simp
@[simp] theorem State.takeSelect_frame (s : State) (tag slot : Byte) :
    (s.takeSelect tag slot).coin = s.coin ∧ (s.takeSelect tag slot).pending = s.pending := by
  unfold State.takeSelect; (repeat' split) <;> simp
@[simp] theorem State.cancelReselect_frame (s : State) (c : Change) :
    (s.cancelReselect c).coin = s.coin ∧ (s.cancelReselect c).pending = s.pending ∧
      (s.cancelReselect c).out = s.out ∧ (s.cancelReselect c).queues = s.queues := by
  unfold State.cancelReselect; split <;> simp
@[simp] theorem State.takeCancel_frame (s : State) (tag : Byte) :
    (s.takeCancel tag).coin = s.coin ∧ (s.takeCancel tag).pending = s.pending := by
  unfold State.takeCancel; (repeat' split) <;> simp
@[simp] theorem State.takeQueryOutput_frame (s : State) (tag : Byte) :
    (s.takeQueryOutput tag).coin = s.coin ∧ (s.takeQueryOutput tag).chg = s.chg ∧
      (s.takeQueryOutput tag).pending = s.pending ∧ (s.takeQueryOutput tag).out = s.out ∧
      (s.takeQueryOutput tag).queues = s.queues := ⟨rfl, rfl, rfl, rfl, rfl⟩
@[simp] theorem State.creditFollows_frame (s : State) (before : Nat) (cause : CoinCause) :
    (s.creditFollows before cause).chg = s.chg ∧ (s.creditFollows before cause).pending = s.pending ∧
      (s.creditFollows before cause).out = s.out ∧ (s.creditFollows before cause).queues = s.queues := by
  unfold State.creditFollows; split <;> simp
@[simp] theorem State.takeCredit_frame (s : State) (tag action n : Byte) :
    (s.takeCredit tag action n).chg = s.chg ∧ (s.takeCredit tag action n).pending = s.pending ∧
      (s.takeCredit tag action n).out = s.out ∧ (s.takeCredit tag action n).queues = s.queues := by
  unfold State.takeCredit; (repeat' split) <;> simp
@[simp] theorem State.takeQueryCoin_frame (s : State) (tag : Byte) :
    (s.takeQueryCoin tag).coin = s.coin ∧ (s.takeQueryCoin tag).chg = s.chg ∧
      (s.takeQueryCoin tag).pending = s.pending ∧ (s.takeQueryCoin tag).out = s.out ∧
      (s.takeQueryCoin tag).queues = s.queues := ⟨rfl, rfl, rfl, rfl, rfl⟩
@[simp] theorem State.takeQueryTest_frame (s : State) (tag part : Byte) :
    (s.takeQueryTest tag part).coin = s.coin ∧ (s.takeQueryTest tag part).chg = s.chg ∧
      (s.takeQueryTest tag part).pending = s.pending ∧ (s.takeQueryTest tag part).out = s.out ∧
      (s.takeQueryTest tag part).queues = s.queues := by
  unfold State.takeQueryTest; split <;> simp
@[simp] theorem State.takeRequest_frame (s : State) (r : Request) :
    (s.takeRequest r).pending = s.pending := by unfold State.takeRequest; split <;> simp
@[simp] theorem State.byteArrives_frame (s : State) (b : Byte) :
    (s.byteArrives b).coin = s.coin ∧ (s.byteArrives b).chg = s.chg ∧ (s.byteArrives b).pending = s.pending ∧
      (s.byteArrives b).out = s.out ∧ (s.byteArrives b).queues = s.queues := ⟨rfl, rfl, rfl, rfl, rfl⟩
@[simp] theorem State.byteEnds_frame (s : State) :
    s.byteEnds.coin = s.coin ∧ s.byteEnds.chg = s.chg ∧ s.byteEnds.pending = s.pending ∧ s.byteEnds.out = s.out ∧
      s.byteEnds.queues = s.queues := ⟨rfl, rfl, rfl, rfl, rfl⟩
@[simp] theorem State.releaseHeld_frame (s : State) :
    s.releaseHeld.coin = s.coin ∧ s.releaseHeld.chg = s.chg ∧ s.releaseHeld.pending = s.pending ∧
      s.releaseHeld.out = s.out ∧ s.releaseHeld.queues = s.queues := by
  unfold State.releaseHeld; (repeat' split) <;> simp
@[simp] theorem State.queueHeld_frame (s : State) :
    s.queueHeld.coin = s.coin ∧ s.queueHeld.chg = s.chg ∧ s.queueHeld.pending = s.pending ∧
      s.queueHeld.out = s.out ∧ s.queueHeld.queues = s.queues := by
  unfold State.queueHeld; (repeat' split) <;> simp
@[simp] theorem State.restartJamNotice_frame (s : State) (x : CoinInput) :
    (s.restartJamNotice x).coin = s.coin ∧ (s.restartJamNotice x).chg = s.chg ∧
      (s.restartJamNotice x).pending = s.pending ∧ (s.restartJamNotice x).out = s.out ∧
      (s.restartJamNotice x).queues = s.queues := by
  unfold State.restartJamNotice; split <;> simp
@[simp] theorem State.restarted_frame (s : State) :
    s.restarted.pending = s.pending := by simp [State.restarted]
@[simp] theorem State.hardReset_frame (s : State) (cause : ResetCause) :
    (s.hardReset cause).pending = s.pending := rfl
@[simp] theorem State.holdReset_frame (s : State) :
    s.holdReset.coin = s.coin ∧ s.holdReset.chg = s.chg ∧ s.holdReset.pending = s.pending ∧
      s.holdReset.out = s.out ∧ s.holdReset.queues = s.queues := ⟨rfl, rfl, rfl, rfl, rfl⟩
@[simp] theorem State.pinPanel_frame (s : State) (n : LineNo) (asserted : Bool) :
    (s.pinPanel n asserted).coin = s.coin ∧ (s.pinPanel n asserted).chg = s.chg ∧
      (s.pinPanel n asserted).pending = s.pending ∧ (s.pinPanel n asserted).out = s.out ∧
      (s.pinPanel n asserted).queues = s.queues := ⟨rfl, rfl, rfl, rfl, rfl⟩
@[simp] theorem State.pinCoin_frame (s : State) (x : CoinInput) (closed : Bool) :
    (s.pinCoin x closed).chg = s.chg ∧ (s.pinCoin x closed).pending = s.pending ∧
      (s.pinCoin x closed).out = s.out ∧ (s.pinCoin x closed).queues = s.queues := ⟨rfl, rfl, rfl, rfl⟩
@[simp] theorem State.setSense_frame (s : State) (i : SlotNo) (d : CoinDrive) (high : Bool) :
    (s.setSense i d high).coin = s.coin ∧ (s.setSense i d high).chg = s.chg ∧
      (s.setSense i d high).pending = s.pending ∧ (s.setSense i d high).out = s.out ∧
      (s.setSense i d high).queues = s.queues := ⟨rfl, rfl, rfl, rfl, rfl⟩
@[simp] theorem State.senseChange_frame (s : State) (i : SlotNo) (d : CoinDrive) (high : Bool) :
    (s.senseChange i d high).coin = s.coin ∧ (s.senseChange i d high).chg = s.chg ∧
      (s.senseChange i d high).pending = s.pending ∧ (s.senseChange i d high).out = s.out ∧
      (s.senseChange i d high).queues = s.queues := ⟨rfl, rfl, rfl, rfl, rfl⟩

end Sys2Proof.Machine
end

