-- ==== Sys2Proof/Laws/Ops.lean ====
section
/-! SUPPORT. What the shared operations can do, one lemma for each, and how a command is taken by a part that is between
two events. -/

namespace Sys2Proof.Machine

/-! ## Numbers -/

theorem clamp_ge (lo hi n : Nat) : lo ≤ clamp lo hi n := Nat.le_max_left _ _

theorem clamp_le {lo hi : Nat} (h : lo ≤ hi) (n : Nat) : clamp lo hi n ≤ hi := by
  unfold clamp; omega

theorem clamp_of_mem {lo hi n : Nat} (h : lo ≤ n ∧ n ≤ hi) : clamp lo hi n = n := by
  unfold clamp; omega

theorem natBytes_length (k n : Nat) : (natBytes k n).length = k := by
  induction k with
  | zero => rfl
  | succ k ih => simp [natBytes, ih]

/-- A set built line by line holds a line exactly when the line is in the list and has the property. -/
theorem foldr_lines_getLsbD (p : LineNo → Bool) (n : LineNo) (l : List LineNo) :
    (l.foldr (fun m acc => if p m then acc ||| BitVec.twoPow 24 m.val else acc) (0 : Lines)).getLsbD n.val =
      (l.contains n && p n) := by
  induction l with
  | nil => simp
  | cons m l ih =>
    simp only [List.foldr]
    split
    · next h =>
      rw [BitVec.getLsbD_or, ih, BitVec.getLsbD_twoPow]
      by_cases hm : m = n
      · subst hm; simp [h]
      · have h1 : ¬ m.val = n.val := fun e => hm (Fin.ext e)
        have h2 : ¬ n = m := fun e => hm e.symm
        simp [h1, h2]
    · next h =>
      rw [ih]
      by_cases hm : n = m
      · subst hm; simp [h]
      · simp [hm]

/-- The set of the lines with a property holds exactly those lines. -/
theorem linesWhere_getLsbD (p : LineNo → Bool) (n : LineNo) : (linesWhere p).getLsbD n.val = p n := by
  unfold linesWhere
  rw [foldr_lines_getLsbD]
  have h : allLines.contains n = true := by revert n; decide
  rw [h]
  simp

/-! ## Notices and messages (R176, R177) -/

@[simp] theorem Message.startUp_isGroup (c : Byte) : (Message.startUp c).isGroup = true := rfl

/-- A notice is queued exactly when its kind is in the notice set, and then only the transmit queue changes. -/
theorem State.notice_cases (s : State) (k : NoticeKey) (body : List Byte) :
    (s.link.noticeSet.getLsbD k.place = false ∧ s.notice k body = s) ∨
    (s.link.noticeSet.getLsbD k.place = true ∧
      s.notice k body = s.modLink fun l =>
        { l with txq := putNotice k { cls := .event k, kind := byteOf (0x42 + k.place), tag := 0, body := body }
                          l.txq }) := by
  unfold State.notice
  cases h : s.link.noticeSet.getLsbD k.place <;> simp

/-- A COMPLETION notice joins the queue when nothing is held and a place is free, and is held otherwise. -/
theorem State.complete_cases (s : State) (tag : Byte) (body : List Byte) :
    (s.link.ready = true ∧
      s.complete tag body = s.enqueue { cls := .group, kind := 0x41, tag := tag, body := body }) ∨
    (s.link.ready = false ∧
      s.complete tag body = s.modLink fun l =>
        { l with held := l.held ++ [{ cls := .group, kind := 0x41, tag := tag, body := body }] }) := by
  unfold State.complete Link.ready
  cases h : (s.link.held.isEmpty && s.link.hasPlace) <;> simp

@[simp] theorem State.enqueue_link (s : State) (m : Message) :
    (s.enqueue m).link = { s.link with txq := s.link.txq ++ [m] } := rfl

@[simp] theorem State.reply_link (s : State) (kind tag : Byte) (body : List Byte) :
    (s.reply kind tag body).link =
      { s.link with txq := s.link.txq ++ [{ cls := .group, kind := kind + 0x80, tag := tag, body := body }] } := rfl

theorem putNotice_length (k : NoticeKey) (m : Message) (q : List Message) :
    (putNotice k m q).length = if q.any (Message.hasKey k) then q.length else q.length + 1 := by
  unfold putNotice; split <;> simp

/-! ## Slot states (R6, R15) -/

/-- A change of state sets the state field and at most queues a SLOT notice. -/
theorem State.setState_slot (s : State) (i : SlotNo) (st : SlotState) :
    (s.setState i st).slot i = { s.slot i with state := st } := by
  unfold State.setState State.slotNotice State.notice
  dsimp only
  split
  · simp
  · split <;> simp

theorem State.setState_slot_of_ne (s : State) {i j : SlotNo} (h : i ≠ j) (st : SlotState) :
    (s.setState i st).slot j = s.slot j := by
  unfold State.setState State.slotNotice State.notice
  dsimp only
  split
  · simp [State.modSlot_slot_of_ne s h]
  · split <;> simp [State.modSlot_slot_of_ne s h]

theorem State.faultSlot_slot (s : State) (i : SlotNo) (r : Result) :
    (s.faultSlot i r).slot i = { s.slot i with state := .fault, lastFault := some r } := by
  simp [State.faultSlot, State.setState_slot]

/-! ## Edges at a tap (R42, R43) -/

@[simp] theorem State.setLineLevel_eq (s : State) (e : LineEdge) :
    s.setLineLevel e = s.modTap e.slot fun t => { t with lineHigh := e.high } := rfl

@[simp] theorem State.setFrameLevel_eq (s : State) (e : FrameEdge) :
    s.setFrameLevel e = s.modTap e.slot fun t => { t with frameHigh := e.high } := rfl

/-- An edge of a line input sets its level, and is a line pulse exactly when that is the input's pulse level. -/
theorem State.lineEdge_cases (s : State) (e : LineEdge) :
    ((s.tap e.slot).linePulseHigh = e.high ∧ s.lineEdge e = (s.setLineLevel e).linePulse e.slot e.opens) ∨
    ((s.tap e.slot).linePulseHigh ≠ e.high ∧ s.lineEdge e = s.setLineLevel e) := by
  unfold State.lineEdge
  by_cases h : (s.tap e.slot).linePulseHigh = e.high
  · exact .inl ⟨h, if_pos h⟩
  · exact .inr ⟨h, if_neg h⟩

/-- An edge of a frame input sets its level, and is a frame pulse exactly when that is the pulse level and it stays there
for 401 ticks. -/
theorem State.frameEdge_cases (s : State) (e : FrameEdge) :
    ((s.tap e.slot).framePulseHigh = e.high ∧ 401 ≤ e.width ∧
      s.frameEdge e = (s.setFrameLevel e).framePulse e.slot) ∨
    (((s.tap e.slot).framePulseHigh ≠ e.high ∨ e.width < 401) ∧ s.frameEdge e = s.setFrameLevel e) := by
  unfold State.frameEdge Config.tapDelay
  by_cases h : (s.tap e.slot).framePulseHigh = e.high ∧ 401 ≤ e.width
  · exact .inl ⟨h.1, h.2, if_pos h⟩
  · refine .inr ⟨?_, if_neg h⟩
    by_cases h1 : (s.tap e.slot).framePulseHigh = e.high
    · exact .inr (by have := mt (And.intro h1) h; omega)
    · exact .inl h1

/-! ## The turn of a prepare entry without a step (R37, log 15) -/

/-- A prepare entry placed without a step ends OK at its turn, or takes the steps of the slot's state and begins the
first. -/
theorem State.beginBare_cases (s : State) (i : SlotNo) (e : Entry) :
    ((s.slot i).measured = true ∧ s.beginBare i e = s.endEntry i .output e .ok none) ∨
    ((s.slot i).measured = false ∧ ∃ steps,
      s.beginBare i e = (s.modQueue i fun q => { q with out := some { e with steps := steps } }).push [.beginStep i]) := by
  unfold State.beginBare
  by_cases h : (s.slot i).measured = true
  · exact .inl ⟨h, if_pos h⟩
  · exact .inr ⟨by simpa using h, _, if_neg h⟩

/-! ## The tasks of an event (log 18) -/

/-- With no task waiting the cascade does nothing. -/
theorem run_of_no_task (n : Nat) (s : State) (h : s.todo = []) : run n s = s := by
  cases n with
  | zero => rfl
  | succ n => unfold run; rw [h]

theorem State.cascade_of_no_task (s : State) (h : s.todo = []) : s.cascade = s := run_of_no_task _ s h

/-- One task of a cascade. -/
theorem run_cons (n : Nat) (s : State) (t : Task) (rest : List Task) (h : s.todo = t :: rest) :
    run (n + 1) s = run n (State.doTask { s with todo := rest } t) := by
  rw [run.eq_2, h]

/-- A property that every task keeps is kept by the cascade. -/
theorem run_induction (P : State → Prop)
    (hstep : ∀ (s : State) (t : Task) (rest : List Task), s.todo = t :: rest → P s →
      P (State.doTask { s with todo := rest } t)) :
    ∀ (n : Nat) (s : State), P s → P (run n s) := by
  intro n
  induction n with
  | zero => intro s h; exact h
  | succ n ih =>
    intro s h
    unfold run
    split
    · exact h
    · next t rest e => exact ih _ (hstep s t rest e h)

/-- A property that one byte taken by the framer keeps is kept by draining the buffer. -/
theorem drain_induction (P : State → Prop)
    (hlink : ∀ (s : State) (l : Link), P s → P { s with link := l })
    (hoffer : ∀ (s : State) (r : Request), P s → P (s.offer r)) :
    ∀ (n : Nat) (s : State), P s → P (drain n s) := by
  intro n
  induction n with
  | zero => intro s h; exact h
  | succ n ih =>
    intro s h
    unfold drain
    split
    · split
      · exact h
      · split
        · exact ih _ (hlink _ _ (hlink _ _ h))
        · exact ih _ (hlink _ _ (hlink _ _ h))
        · exact ih _ (hoffer _ _ (hlink _ _ (hlink _ _ h)))
    · exact h

/-! ## The comparison of a frame with a probe (R52, R77, R101) -/

/-- What a frame pulse makes of a running count: one line less for the ended frame and one for the next when a line pulse of
the same tick has been counted. -/
theorem splitFrame_eq (coincident : Bool) (n : Nat) :
    splitFrame coincident n = (if coincident then n - 1 else n, if coincident then 1 else 0) := by
  cases coincident <;> rfl

/-- A frame fits a completed record exactly when it is within 8 lines of the count it is compared with. -/
theorem fitsProbe_iff (p : ProbeRecord) (a b n : Nat) (d : Derived) (ha : p.countA = some a) (hb : p.countB = some b)
    (hd : p.derived = some d) :
    fitsProbe (some p) n = true ↔ linesAway n (nearerCount d.interlaced a b n) ≤ 8 := by
  unfold linesAway nearerCount linesAway
  cases hi : d.interlaced <;> simp [fitsProbe, ProbeRecord.fits, ha, hb, hd, hi, within8]
  · omega
  · split <;> omega

/-! ## Drive lines (R119, R124) -/

theorem State.driveMode_of_inReset (s : State) (i : SlotNo) (h : s.link.inReset = true) : s.driveMode i = .park := by
  simp [State.driveMode, h]

/-! ## The transmit line (R176) -/

/-- A held COMPLETION notice moves exactly when no RESTART's reply waits and one is held: the oldest joins the queue (R176,
R180). -/
theorem State.releaseHeld_cases (s : State) :
    (∃ m rest, s.link.restartPending = false ∧ s.link.held = m :: rest ∧
      s.releaseHeld = { s with link := { s.link with held := rest, txq := s.link.txq ++ [m] } }) ∨
    ((s.link.restartPending = true ∨ s.link.held = []) ∧ s.releaseHeld = s) := by
  unfold State.releaseHeld
  cases hp : s.link.restartPending
  · cases hh : s.link.held with
    | nil => exact .inr ⟨.inr rfl, rfl⟩
    | cons m rest => exact .inl ⟨m, rest, rfl, rfl, rfl⟩
  · exact .inr ⟨.inl rfl, rfl⟩

/-- A line that is busy, or an empty queue, begins no message. -/
theorem State.beginMessage_busy (s : State) (h : s.link.sending.isSome = true) : s.beginMessage = s := by
  unfold State.beginMessage
  cases hs : s.link.sending with
  | none => simp [hs] at h
  | some m => rfl

/-- On an idle line the head of the queue begins; its place goes to no one when nothing is held and no request waits. -/
theorem State.beginMessage_idle (s : State) (m : Message) (rest : List Message) (hs : s.link.sending = none)
    (hq : s.link.txq = m :: rest) (hh : s.link.held = []) (hw : s.link.waiting = none) :
    s.beginMessage = s.modLink fun l => { l with sending := some m, txq := rest } := by
  unfold State.beginMessage
  rw [hs, hq]
  dsimp only
  split
  · unfold State.placeFreed
    simp [hh, hw]
  · rfl

/-! ## The end of a byte, and the state in which a request is taken (log 6) -/

@[simp] theorem State.byteEnds_now (s : State) : s.byteEnds.now = s.now := rfl
@[simp] theorem State.byteEnds_slots (s : State) : s.byteEnds.slots = s.slots := rfl
@[simp] theorem State.byteEnds_supply (s : State) : s.byteEnds.supply = s.supply := rfl
@[simp] theorem State.byteEnds_taps (s : State) : s.byteEnds.taps = s.taps := rfl
@[simp] theorem State.byteEnds_engines (s : State) : s.byteEnds.engines = s.engines := rfl
@[simp] theorem State.byteEnds_probeList (s : State) : s.byteEnds.probeList = s.probeList := rfl
@[simp] theorem State.byteEnds_settings (s : State) : s.byteEnds.settings = s.settings := rfl
@[simp] theorem State.byteEnds_classDeadline (s : State) : s.byteEnds.classDeadline = s.classDeadline := rfl
@[simp] theorem State.byteEnds_controls (s : State) : s.byteEnds.controls = s.controls := rfl
@[simp] theorem State.byteEnds_senses (s : State) : s.byteEnds.senses = s.senses := rfl
@[simp] theorem State.byteEnds_sampler (s : State) : s.byteEnds.sampler = s.sampler := rfl
@[simp] theorem State.byteEnds_tester (s : State) : s.byteEnds.tester = s.tester := rfl
@[simp] theorem State.byteEnds_todo (s : State) : s.byteEnds.todo = s.todo := rfl
@[simp] theorem State.byteEnds_link (s : State) : s.byteEnds.link = { s.link with lastByteAt := some s.now } := rfl
@[simp] theorem State.received_now (s : State) (dt : Nat) : (s.received dt).now = s.now + dt := rfl
@[simp] theorem State.received_slots (s : State) (dt : Nat) : (s.received dt).slots = s.slots := rfl
@[simp] theorem State.received_supply (s : State) (dt : Nat) : (s.received dt).supply = s.supply := rfl
@[simp] theorem State.received_queues (s : State) (dt : Nat) : (s.received dt).queues = s.queues := rfl
@[simp] theorem State.received_taps (s : State) (dt : Nat) : (s.received dt).taps = s.taps := rfl
@[simp] theorem State.received_engines (s : State) (dt : Nat) : (s.received dt).engines = s.engines := rfl
@[simp] theorem State.received_probeList (s : State) (dt : Nat) : (s.received dt).probeList = s.probeList := rfl
@[simp] theorem State.received_out (s : State) (dt : Nat) : (s.received dt).out = s.out := rfl
@[simp] theorem State.received_settings (s : State) (dt : Nat) : (s.received dt).settings = s.settings := rfl
@[simp] theorem State.received_chg (s : State) (dt : Nat) : (s.received dt).chg = s.chg := rfl
@[simp] theorem State.received_classDeadline (s : State) (dt : Nat) : (s.received dt).classDeadline = s.classDeadline := rfl
@[simp] theorem State.received_controls (s : State) (dt : Nat) : (s.received dt).controls = s.controls := rfl
@[simp] theorem State.received_coin (s : State) (dt : Nat) : (s.received dt).coin = s.coin := rfl
@[simp] theorem State.received_senses (s : State) (dt : Nat) : (s.received dt).senses = s.senses := rfl
@[simp] theorem State.received_sampler (s : State) (dt : Nat) : (s.received dt).sampler = s.sampler := rfl
@[simp] theorem State.received_tester (s : State) (dt : Nat) : (s.received dt).tester = s.tester := rfl
@[simp] theorem State.received_todo (s : State) (dt : Nat) : (s.received dt).todo = s.todo := rfl
@[simp] theorem State.received_pending (s : State) (dt : Nat) : (s.received dt).pending = s.pending := rfl
@[simp] theorem State.received_link (s : State) (dt : Nat) :
    (s.received dt).link = { s.link with lastByteAt := some (s.now + dt) } := rfl
@[simp] theorem State.received_slot (s : State) (dt : Nat) (j : SlotNo) : (s.received dt).slot j = s.slot j := rfl
@[simp] theorem State.received_queue (s : State) (dt : Nat) (j : SlotNo) : (s.received dt).queue j = s.queue j := rfl
@[simp] theorem State.received_tap (s : State) (dt : Nat) (j : SlotNo) : (s.received dt).tap j = s.tap j := rfl
@[simp] theorem State.received_profile (s : State) (dt : Nat) (j : SlotNo) : (s.received dt).profile j = s.profile j := rfl
@[simp] theorem State.received_engine (s : State) (dt : Nat) (k : EngineNo) : (s.received dt).engine k = s.engine k := rfl

/-! ## How a command is taken -/

/-- A command of a part between two events has its effect, then its tasks, then the line (R181, log 18). -/
theorem live_of_between (dt : Nat) (effect : State → State) (s : State) (h : s.Between) :
    live dt effect s = .next (effect (s.advance dt)).finish := by
  unfold live
  simp [h.2]

theorem livePin_of_between (dt : Nat) (pin effect : State → State) (s : State) (h : s.Between) :
    livePin dt pin effect s = .next (effect (s.advance dt)).finish := by
  unfold livePin
  simp [h.2]

/-- A part held in reset takes nothing but the time (R181). -/
theorem live_of_reset (dt : Nat) (effect : State → State) (s : State) (h : s.link.inReset = true) :
    live dt effect s = .next (s.advance dt) := by
  unfold live
  simp [h]

/-- An event without tasks ends with the line. -/
theorem State.finish_of_no_task (s : State) (h : s.todo = []) : s.finish = s.beginMessage := by
  unfold State.finish
  rw [State.cascade_of_no_task s h]

/-- What follows a CREDIT: nothing when the bank is as it was, else the payout test and the COIN notice (R140, R148). -/
theorem State.creditFollows_cases (s : State) (before : Nat) (cause : CoinCause) :
    (s.coin.bank = before ∧ s.creditFollows before cause = s) ∨
    (s.coin.bank ≠ before ∧ s.creditFollows before cause = s.payoutTest.coinNotice cause) := by
  unfold State.creditFollows
  by_cases h : s.coin.bank = before
  · exact .inl ⟨h, if_pos h⟩
  · exact .inr ⟨h, if_neg h⟩

/-- A request on a clear link is offered whole; on any other its bytes meet the buffer and the framer (R173, R174). -/
theorem State.submit_cases (s : State) (r : Request) :
    (s.link.clear = true ∧ s.submit r = s.byteEnds.offer r) ∨
    (s.link.clear = false ∧ s.submit r = s.bytesArrive r.frame) := by
  unfold State.submit
  cases h : s.link.clear <;> simp

/-- A request that can be taken at once is taken in its own event (R175). -/
theorem request_of_takes (dt : Nat) (tag : Byte) (op : ReqOp) (s : State) (h : s.TakesRequests) :
    request dt tag op s =
      .next (((s.received dt).takeRequest { tag := tag, op := op }).cascade.finish) := by
  obtain ⟨hb, ht, hr⟩ := h
  unfold request
  rw [live_of_between _ _ _ hb]
  unfold State.submit State.offer State.handle State.received
  have hr' : (s.advance dt).byteEnds.link.ready = true := hr
  simp only [State.advance_link, ht, hr', if_true]

/-- A second cascade finds nothing to do when the first left no task. -/
theorem State.finish_of_cascade (s : State) (h : s.cascade.todo = []) : s.cascade.finish = s.cascade.beginMessage :=
  State.finish_of_no_task _ h

end Sys2Proof.Machine
end

