-- ==== Sys2Proof/Laws/PerInstr.lean ====
section
/-! SUPPORT. The family Carried, one lemma for each command: the request a well-formed command stands for is itself well
formed and fits the frame that carries it (R172, R175). -/

namespace Sys2Proof.Laws

open Sys2Proof

/-! ## Reading a body of the right length -/

theorem noBody_isSome (op : ReqOp) : (l : List Byte) → l.length = 0 → (noBody op l).isSome = true
  | [], _ => rfl

theorem oneByte_isSome (op : Byte → ReqOp) : (l : List Byte) → l.length = 1 → (oneByte op l).isSome = true
  | [_], _ => rfl

theorem twoBytes_isSome (op : Byte → Byte → ReqOp) : (l : List Byte) → l.length = 2 → (twoBytes op l).isSome = true
  | [_, _], _ => rfl

theorem readOutput_isSome : (l : List Byte) → l.length = 8 → (readOutput l).isSome = true
  | [_, _, _, _, _, _, _, _], _ => rfl

theorem readCabinet_isSome : (l : List Byte) → l.length = 12 → (readCabinet l).isSome = true
  | [_, _, _, _, _, _, _, _, _, _, _, _], _ => rfl

theorem readChord_isSome : (l : List Byte) → l.length = 7 → (readChord l).isSome = true
  | [_, _, _, _, _, _, _], _ => rfl

theorem profileOf_isSome : (l : List Byte) → l.length = 20 → (profileOf l).isSome = true
  | [_, _, _, _, _, _, _, _, _, _, _, _, _, _, _, _, _, _, _, _], _ => rfl

theorem stepsOf_isSome : (l : List Byte) → l.length = 24 → (stepsOf l).isSome = true
  | [_, _, _, _, _, _, _, _, _, _, _, _, _, _, _, _, _, _, _, _, _, _, _, _], _ => rfl

theorem readSlot_isSome : (l : List Byte) → l.length = 22 → (readSlot l).isSome = true
  | _ :: _ :: rest, h => by simpa [readSlot] using profileOf_isSome rest (by simpa using h)

theorem readMap_isSome : (l : List Byte) → l.length = 25 → (readMap l).isSome = true
  | _ :: rest, h => by
    have h : rest.length = 24 := by simpa using h
    simp [readMap, vectorOf, h]

theorem readWork_isSome : (l : List Byte) → l.length = 26 → (readWork l).isSome = true
  | _ :: _ :: rest, h => by simpa [readWork] using stepsOf_isSome rest (by simpa using h)

/-- A kind has a reader exactly when it names a request. -/
theorem reader_isSome : ∀ kind : Byte, (reader kind).isSome = kindIsRequest kind := by decide

/-- The reader of a kind reads every body of the kind's length. -/
theorem reader_reads (kind : Byte) (body : List Byte) (read : List Byte → Option ReqOp) (hr : reader kind = some read)
    (h : body.length = bodyLength kind) : (read body).isSome = true := by
  obtain ⟨n, hn⟩ : ∃ n, kind.toNat = n := ⟨_, rfl⟩
  unfold bodyLength at h
  unfold reader at hr
  rw [hn] at hr h
  split at hr <;> simp_all <;> subst hr <;>
    first
      | rfl
      | exact oneByte_isSome _ _ h
      | exact twoBytes_isSome _ _ h
      | exact readOutput_isSome _ h
      | exact readCabinet_isSome _ h
      | exact readChord_isSome _ h
      | exact readSlot_isSome _ h
      | exact readMap_isSome _ h
      | exact readWork_isSome _ h

/-! ## The request that is read -/

/-- Well formed and with a body a frame can carry (R172). -/
def Fits (op : ReqOp) : Prop := op.wf = true ∧ op.body.length ≤ 62

/-- Whether a request is of a kind and length of its table. -/
def known : ReqOp → Bool
  | .unknown _ _ => false
  | .badLength _ _ => false
  | _ => true

theorem fits_of_known (op : ReqOp) (h : known op = true) : Fits op := by
  cases op <;> simp_all [known, Fits, ReqOp.wf, ReqOp.body, RawProfile.bytes, lineBytes, RawStep.bytes, paramBytes]

/-- Every reader reads only requests of its table. -/
theorem known_of_read (kind : Byte) (body : List Byte) (read : List Byte → Option ReqOp) (op : ReqOp)
    (hr : reader kind = some read) (h : read body = some op) : known op = true := by
  unfold reader at hr
  split at hr <;> simp at hr <;> subst hr <;>
    simp only [noBody, oneByte, twoBytes, readOutput, readCabinet, readChord, readSlot, readMap, readWork] at h
  all_goals split at h
  all_goals simp at h
  all_goals
    obtain ⟨_, _, rfl⟩ := h
    rfl

theorem fits_decodeRequest (kind : Byte) (body : List Byte) (hb : bodyFits body = true) :
    Fits (decodeRequest kind body) := by
  have hlen : body.length ≤ 62 := by simpa [bodyFits] using hb
  unfold decodeRequest
  cases hr : reader kind with
  | none =>
    have := reader_isSome kind
    simp_all [Fits, ReqOp.wf, ReqOp.body]
  | some read =>
    have hk := reader_isSome kind
    cases ho : read body with
    | some op => simpa [ho] using fits_of_known _ (known_of_read kind body read op hr ho)
    | none =>
      have := reader_reads kind body read hr
      simp_all [Fits, ReqOp.wf, ReqOp.body]

/-! ## The family -/

/-- The request a well-formed command stands for is well formed and fits a frame. -/
def Carried.Statement (i : Instr) : Prop := i.wf = true → ∀ r, i.request = some r → Fits r.op

theorem Carried.status (dt : Nat) (tag : Byte) :
    Carried.Statement (.status dt tag) := by
  rintro - r ⟨⟩
  exact fits_of_known _ rfl

theorem Carried.notify (dt : Nat) (tag : Byte) (set : Byte) :
    Carried.Statement (.notify dt tag set) := by
  rintro - r ⟨⟩
  exact fits_of_known _ rfl

theorem Carried.restart (dt : Nat) (tag : Byte) :
    Carried.Statement (.restart dt tag) := by
  rintro - r ⟨⟩
  exact fits_of_known _ rfl

theorem Carried.restartTaken (dt : Nat) :
    Carried.Statement (.restartTaken dt) := by
  rintro - r ⟨⟩

theorem Carried.setOutput (dt : Nat) (tag : Byte) (r : RawOutput) :
    Carried.Statement (.setOutput dt tag r) := by
  rintro - r ⟨⟩
  exact fits_of_known _ rfl

theorem Carried.setCabinet (dt : Nat) (tag : Byte) (r : RawCabinet) :
    Carried.Statement (.setCabinet dt tag r) := by
  rintro - r ⟨⟩
  exact fits_of_known _ rfl

theorem Carried.setSlot (dt : Nat) (tag : Byte) (slot : Byte) (p : RawProfile) :
    Carried.Statement (.setSlot dt tag slot p) := by
  rintro - r ⟨⟩
  exact fits_of_known _ rfl

theorem Carried.setSlotDisable (dt : Nat) (tag : Byte) (slot : Byte) :
    Carried.Statement (.setSlotDisable dt tag slot) := by
  rintro - r ⟨⟩
  exact fits_of_known _ rfl

theorem Carried.setMap (dt : Nat) (tag : Byte) (slot : Byte) (sources : Vector Byte 24) :
    Carried.Statement (.setMap dt tag slot sources) := by
  rintro - r ⟨⟩
  exact fits_of_known _ rfl

theorem Carried.setTrim (dt : Nat) (tag : Byte) (slot : Byte) (level : Byte) :
    Carried.Statement (.setTrim dt tag slot level) := by
  rintro - r ⟨⟩
  exact fits_of_known _ rfl

theorem Carried.setChord (dt : Nat) (tag : Byte) (r : RawChord) :
    Carried.Statement (.setChord dt tag r) := by
  rintro - r ⟨⟩
  exact fits_of_known _ rfl

theorem Carried.slotWork (dt : Nat) (tag : Byte) (slot : Byte) (count : Byte) (steps : Vector RawStep 4) :
    Carried.Statement (.slotWork dt tag slot count steps) := by
  rintro - r ⟨⟩
  exact fits_of_known _ rfl

theorem Carried.abortWork (dt : Nat) (tag : Byte) (slot : Byte) :
    Carried.Statement (.abortWork dt tag slot) := by
  rintro - r ⟨⟩
  exact fits_of_known _ rfl

theorem Carried.select (dt : Nat) (tag : Byte) (slot : Byte) :
    Carried.Statement (.select dt tag slot) := by
  rintro - r ⟨⟩
  exact fits_of_known _ rfl

theorem Carried.cancel (dt : Nat) (tag : Byte) :
    Carried.Statement (.cancel dt tag) := by
  rintro - r ⟨⟩
  exact fits_of_known _ rfl

theorem Carried.capture (dt : Nat) (tag : Byte) (setting : Byte) :
    Carried.Statement (.capture dt tag setting) := by
  rintro - r ⟨⟩
  exact fits_of_known _ rfl

theorem Carried.creditAdd (dt : Nat) (tag : Byte) (n : Byte) :
    Carried.Statement (.creditAdd dt tag n) := by
  rintro - r ⟨⟩
  exact fits_of_known _ rfl

theorem Carried.creditClear (dt : Nat) (tag : Byte) :
    Carried.Statement (.creditClear dt tag) := by
  rintro - r ⟨⟩
  exact fits_of_known _ rfl

theorem Carried.querySlot (dt : Nat) (tag : Byte) (slot : Byte) :
    Carried.Statement (.querySlot dt tag slot) := by
  rintro - r ⟨⟩
  exact fits_of_known _ rfl

theorem Carried.queryOutput (dt : Nat) (tag : Byte) :
    Carried.Statement (.queryOutput dt tag) := by
  rintro - r ⟨⟩
  exact fits_of_known _ rfl

theorem Carried.queryCoin (dt : Nat) (tag : Byte) :
    Carried.Statement (.queryCoin dt tag) := by
  rintro - r ⟨⟩
  exact fits_of_known _ rfl

theorem Carried.queryTest (dt : Nat) (tag : Byte) (part : Byte) :
    Carried.Statement (.queryTest dt tag part) := by
  rintro - r ⟨⟩
  exact fits_of_known _ rfl

theorem Carried.clearDip (dt : Nat) (tag : Byte) :
    Carried.Statement (.clearDip dt tag) := by
  rintro - r ⟨⟩
  exact fits_of_known _ rfl

theorem Carried.unknownKind (dt : Nat) (kind : Byte) (tag : Byte) (body : List Byte) :
    Carried.Statement (.unknownKind dt kind tag body) := by
  rintro h r ⟨⟩
  exact fits_decodeRequest kind body (by simp [Instr.wf] at h; exact h.1)

theorem Carried.receiveByte (dt : Nat) (b : Byte) :
    Carried.Statement (.receiveByte dt b) := by
  rintro - r ⟨⟩

theorem Carried.messageSent (dt : Nat) :
    Carried.Statement (.messageSent dt) := by
  rintro - r ⟨⟩

theorem Carried.heldCompletionQueued (dt : Nat) :
    Carried.Statement (.heldCompletionQueued dt) := by
  rintro - r ⟨⟩

theorem Carried.resetLineHeld (dt : Nat) :
    Carried.Statement (.resetLineHeld dt) := by
  rintro - r ⟨⟩

theorem Carried.hardReset (dt : Nat) (cause : ResetCause) :
    Carried.Statement (.hardReset dt cause) := by
  rintro - r ⟨⟩

theorem Carried.pauseEnd (dt : Nat) (slot : SlotNo) :
    Carried.Statement (.pauseEnd dt slot) := by
  rintro - r ⟨⟩

theorem Carried.warmUpEnd (dt : Nat) (slot : SlotNo) :
    Carried.Statement (.warmUpEnd dt slot) := by
  rintro - r ⟨⟩

theorem Carried.restTimerEnd (dt : Nat) (slot : SlotNo) :
    Carried.Statement (.restTimerEnd dt slot) := by
  rintro - r ⟨⟩

theorem Carried.powerTrip (dt : Nat) (slot : SlotNo) :
    Carried.Statement (.powerTrip dt slot) := by
  rintro - r ⟨⟩

theorem Carried.supplyDip (dt : Nat) :
    Carried.Statement (.supplyDip dt) := by
  rintro - r ⟨⟩

theorem Carried.linePulse (dt : Nat) (edge : LineEdge) :
    Carried.Statement (.linePulse dt edge) := by
  rintro - r ⟨⟩

theorem Carried.framePulse (dt : Nat) (edge : FrameEdge) :
    Carried.Statement (.framePulse dt edge) := by
  rintro - r ⟨⟩

theorem Carried.pulseLevelWindowEnd (dt : Nat) (slot : SlotNo) (lineLow : Nat) (frameLow : Nat) :
    Carried.Statement (.pulseLevelWindowEnd dt slot lineLow frameLow) := by
  rintro - r ⟨⟩

theorem Carried.probeFrameWatchEnd (dt : Nat) (engine : EngineNo) :
    Carried.Statement (.probeFrameWatchEnd dt engine) := by
  rintro - r ⟨⟩

theorem Carried.linePeriodOverflow (dt : Nat) (engine : EngineNo) :
    Carried.Statement (.linePeriodOverflow dt engine) := by
  rintro - r ⟨⟩

theorem Carried.bridgeFrameStart (dt : Nat) :
    Carried.Statement (.bridgeFrameStart dt) := by
  rintro - r ⟨⟩

theorem Carried.audioStep (dt : Nat) :
    Carried.Statement (.audioStep dt) := by
  rintro - r ⟨⟩

theorem Carried.watchFrameTimerEnd (dt : Nat) :
    Carried.Statement (.watchFrameTimerEnd dt) := by
  rintro - r ⟨⟩

theorem Carried.holdTimerExpiry (dt : Nat) :
    Carried.Statement (.holdTimerExpiry dt) := by
  rintro - r ⟨⟩

theorem Carried.bridgeStageTimerEnd (dt : Nat) :
    Carried.Statement (.bridgeStageTimerEnd dt) := by
  rintro - r ⟨⟩

theorem Carried.prepareTimeout (dt : Nat) :
    Carried.Statement (.prepareTimeout dt) := by
  rintro - r ⟨⟩

theorem Carried.classSettleDeadline (dt : Nat) :
    Carried.Statement (.classSettleDeadline dt) := by
  rintro - r ⟨⟩

theorem Carried.alignTimeout (dt : Nat) :
    Carried.Statement (.alignTimeout dt) := by
  rintro - r ⟨⟩

theorem Carried.settleFrameTimerEnd (dt : Nat) :
    Carried.Statement (.settleFrameTimerEnd dt) := by
  rintro - r ⟨⟩

theorem Carried.panelChange (dt : Nat) (line : LineNo) (asserted : Bool) :
    Carried.Statement (.panelChange dt line asserted) := by
  rintro - r ⟨⟩

theorem Carried.chordHoldTimerEnd (dt : Nat) :
    Carried.Statement (.chordHoldTimerEnd dt) := by
  rintro - r ⟨⟩

theorem Carried.coinSwitchChange (dt : Nat) (input : CoinInput) (closed : Bool) :
    Carried.Statement (.coinSwitchChange dt input closed) := by
  rintro - r ⟨⟩

theorem Carried.coinPulseMaximum (dt : Nat) (input : CoinInput) :
    Carried.Statement (.coinPulseMaximum dt input) := by
  rintro - r ⟨⟩

theorem Carried.lockoutSenseChange (dt : Nat) (slot : SlotNo) (sense : CoinDrive) (high : Bool) :
    Carried.Statement (.lockoutSenseChange dt slot sense high) := by
  rintro - r ⟨⟩

theorem Carried.payoutOnTimeEnd (dt : Nat) :
    Carried.Statement (.payoutOnTimeEnd dt) := by
  rintro - r ⟨⟩

theorem Carried.payoutOffTimeEnd (dt : Nat) :
    Carried.Statement (.payoutOffTimeEnd dt) := by
  rintro - r ⟨⟩

theorem Carried.meterOnEnd (dt : Nat) (meter : MeterNo) :
    Carried.Statement (.meterOnEnd dt meter) := by
  rintro - r ⟨⟩

theorem Carried.meterOffEnd (dt : Nat) (meter : MeterNo) :
    Carried.Statement (.meterOffEnd dt meter) := by
  rintro - r ⟨⟩

theorem Carried.harnessPatternEnd (dt : Nat) (senses : Lines) :
    Carried.Statement (.harnessPatternEnd dt senses) := by
  rintro - r ⟨⟩

theorem Carried.gridPointSample (dt : Nat) (red : Bool) (green : Bool) (blue : Bool) :
    Carried.Statement (.gridPointSample dt red green blue) := by
  rintro - r ⟨⟩

end Sys2Proof.Laws
end

