-- ==== Sys2Proof/Tests/Slice0.lean ====
section
/-! SUPPORT. Tests: what WellFormed refuses, worked figures of the spec, small steps of single commands, and for each statement
with hypotheses a concrete state that meets them. Every expected figure is taken from the spec's tables or worked cases. -/

set_option maxRecDepth 8000

namespace Sys2Proof.Tests

open Sys2Proof.Machine

/-! ## Helpers -/

/-- A field of the state after a command. -/
def after {α : Type} (c : Instr) (s : State) (f : State → α) : Option α :=
  match exec c s with
  | .next t => some (f t)
  | _ => none

/-- A profile as SET-SLOT sends it. -/
def raw : RawProfile :=
  { warmUp := 3000, rest := 2000, recovery := 3000, stallLimit := 600, settleFrames := 2, audioLevel := 12
    powerPolicy := 1, stallPolicy := 1, polarity := 0, park := 8, coinDrive := 1, units := 2, onTime := 60, offTime := 60 }

/-- That profile as stored. -/
def profile : Profile :=
  { warmUp := 3000, rest := 2000, policy := .shed, settleFrames := 2, audioLevel := 12, recovery := 3000
    stallLimit := 600, stallPolicy := .restart, polarity := .lowAssert, park := 8
    coin := some { drive := .c1, units := 2, onTime := 60, offTime := 60 } }

/-- A configured slot's profile and map. -/
def setup : Setup := { profile := profile, map := identityMap }

/-- The same profile under policy KEEP without a coin profile. -/
def plain : Setup := { profile := { profile with policy := .keep, stallLimit := 0, coin := none }, map := identityMap }

/-- A configured slot in a state. -/
def conf (i : SlotNo) (su : Setup) (st : SlotState) (power : Bool) (s : State) : State :=
  s.modSlot i fun sl => { sl with setup := some su, state := st, power := power }

/-- The record of the LOW board of the spec's first worked case. -/
def lowBoard : ProbeRecord := goodRecord 786432 264 264

/-- The record of an interlaced board, one field of 262 lines and one of 263. -/
def fieldBoard : ProbeRecord := goodRecord 786432 262 263

/-- Its figures. -/
def fieldFigures : Derived := derive 786432 262 263

/-- The LOW board's figures. -/
def lowFigures : Derived := derive 786432 264 264

/-- Slot 2 READY with that record, the output DARK. -/
def readyTwo (su : Setup) : State := (conf 2 su .ready true State.reset).modSlot 2 fun sl => { sl with lastProbe := some lowBoard }

/-- Slot 2 SHOWING. -/
def shown (su : Setup) : State :=
  { conf 2 su .active true State.reset with
    out := { Output.reset with
      mode := .showing, source := some 2, sourceProbe := some lowBoard, sync := .slot 2, blanked := false, gain := 12
      target := 12, watch := { lineCount := 264, irregular := 7, timer := some 4800000 } }
    sampler := { Sampler.reset with sampling := true } }

/-- The output HOLDING slot 2, in the form of a loss. -/
def holding : State :=
  { conf 2 plain .active true State.reset with
    out := { Output.reset with
      mode := .holding, source := some 2, sourceProbe := some lowBoard
      hold := { Hold.none with timer := some 144000000, form := some .loss, probing := true } } }

/-- The output HOLDING slot 2 in the form of a stall of tick 0, the restart entry having opened the slot's switch. -/
def stalled : State :=
  { (conf 2 setup .resting false State.reset).modQueue 2 fun q =>
      { q with running := some .output
               out := some { kind := .restart, steps := [.powerOff, .powerOn, .probe], done := 1, waiver := true
                             marked := false } } with
    out := { Output.reset with
      mode := .holding, source := some 2, sourceProbe := some lowBoard
      hold := { Hold.none with timer := some 384000000, form := some .restart, awaitReady := true, stalledAt := some 0 } } }

/-- A changeover to a target in a stage. -/
def change (target : Option SlotNo) (stage : Stage) : Change :=
  { fromSlot := none, toSlot := target, tag := 9, stage := stage, cut := { Cut.none with timer := some 12000000 }
    timeout := 30, prepareTimer := none, settle := 500, targetProbe := some lowBoard, starts := none, reselect := none }

/-- The output CHANGING, slot 2 READY. -/
def changing (c : Change) : State :=
  { readyTwo plain with chg := some c, out := { Output.reset with mode := .changing } }

/-- A slot's queue with one running controller entry of a PAUSE. -/
def pausing (s : State) : State :=
  s.modQueue 2 fun _ =>
    { ctrl := [{ kind := .controller 7, steps := [.pause 100], done := 0, waiver := false, marked := false }]
      out := none, running := some .controller, pauseEnd := some 4800000 }

/-- A controller entry of one POWER_ON. -/
def powerOnEntry : Entry := { kind := .controller 7, steps := [.powerOn], done := 0, waiver := false, marked := false }

/-- A payout pulse to slot 2. -/
def pulse : Pulse := { slot := 2, drive := .c1, units := 1, on := true, ends := 5, offTime := 60 }

/-- An engine that measures slot 2. -/
def measuring (phase : FramePhase) (line : LinePeriod) : Measure :=
  { req := { kind := .work, slot := 2 }, phase := phase, watchFrom := 0, firstAt := some 0, line := line, countA := some 264
    countB := some 264, opening := false, released := false }

/-- The part after a reset with another link. -/
def linked (l : Link) : State := { State.reset with link := l }

theorem between_of (s : State) (h : s.todo = []) (hl : s.link.inReset = false) : s.Between := ⟨h, hl⟩

theorem takes_of (s : State) (h : s.todo = []) (hl : s.link = Link.reset) : s.TakesRequests := by
  refine ⟨⟨h, ?_⟩, ?_, ?_⟩ <;> rw [hl] <;> decide

/-! ## WellFormed: one ill-formed command for each check -/

/-- An unknown-kind frame of a request kind with that kind's own length is none. -/
theorem test_wf_refuses_known_kind : (Instr.unknownKind 0 0x01 0 []).wf = false := by decide

/-- A body of 63 bytes fits no frame. -/
theorem test_wf_refuses_long_body : (Instr.unknownKind 0 0x15 0 (List.replicate 63 0)).wf = false := by decide

/-- A window spends at most 1,048,576 ticks at one level, at either input. -/
theorem test_wf_refuses_long_window :
    (Instr.pulseLevelWindowEnd 0 0 1048577 0).wf = false ∧ (Instr.pulseLevelWindowEnd 0 0 0 1048577).wf = false := by decide

/-- A request read as unknown or as of a bad length is so in truth. -/
theorem test_wf_refuses_false_unknown :
    (ReqOp.unknown 0x14 []).wf = false ∧ (ReqOp.badLength 0x14 []).wf = false ∧ (ReqOp.badLength 0x15 [0]).wf = false := by
  decide

/-! ## Decoding: the table gives no bits, so no word spells a command -/

theorem test_no_word_decodes : decodeTableWord 8 0 = none ∧ decodeTableWord 32 0xFFFFFFFF = none := by decide

/-! ## Figures of the spec -/

/-- The worked cases of 03_sync_timing_measurement.md. -/
theorem test_probe_figures :
    (lineRate 786432, frameRate 786432 264 264) = (15625, 5919) ∧ classOf 15625 = .low ∧
    (derive 512123 410 410).lineRate = 23994 ∧ (derive 512123 410 410).lineTicks = 2000 ∧
    (derive 512123 410 410).frameRate = 5852 ∧ (derive 512123 410 410).cls = .medium := by decide

/-- The example frame of R154: FFFFh over samples 0, 7 and 4. -/
theorem test_signature_example :
    foldSignature 0xFFFF 0 = 0xEFDF ∧ foldSignature 0xEFDF 7 = 0xCF98 ∧ foldSignature 0xCF98 4 = 0x8F15 := by decide

/-- The patterns and signatures of the worked test of 09_harness_test.md. -/
theorem test_harness_example :
    nextPattern 0xA00005 = 0x82000B ∧ nextPattern 0xC60017 = 0x4E002F ∧ nextPattern 0x4E002F = 0x9C005E ∧
    foldValue 0x36017B = 0x014D ∧ foldSignature 0x1BFF 0x014D = 0x36B3 := by decide

/-- A SET-TRIM of slot 3 to 9 dB under tag 5, its check byte reckoned by hand from R172. -/
theorem test_trim_frame :
    ({ tag := 5, op := .setTrim 3 9 } : Request).frame = [0xA5, 0x04, 0x08, 0x05, 0x03, 0x09, 0xE3] := by decide

/-! ## One step of single commands -/

theorem test_set_slot_makes_off : after (.setSlot 0 1 2 raw) State.reset (fun t => (t.slot 2).state) = some .off := by decide

theorem test_set_slot_stores : after (.setSlot 0 1 2 raw) State.reset (fun t => (t.slot 2).setup) = some (some setup) := by decide

theorem test_select_ready_enters_reclass :
    after (.select 0 9 2) (readyTwo setup) (fun t => (t.out.mode, t.chg.map (·.stage), t.out.timing)) =
      some (.changing, some .reclass, { ticks := 3072, lines := 264 }) ∧
    after (.select 0 1 8) State.reset (fun t => t.link.txq.map (·.body)) = some [[3]] := by decide

theorem test_slot_work_powers_on :
    after (.slotWork 0 7 2 1 (Vector.replicate 4 { kind := 1, params := 0 })) (conf 2 setup .off false State.reset)
      (fun t => ((t.slot 2).state, (t.slot 2).warm, t.supply.permit)) = some (.starting, some 144000000, some 2) := by decide

theorem test_warm_up_ends_step :
    after (.warmUpEnd 0 2)
      ((conf 2 setup .starting true State.reset).modSlot 2 fun sl => { sl with warm := some 144000000 })
      (fun t => ((t.slot 2).state, t.now)) = some (.warm, 144000000) := by decide

theorem test_trip_of_shown_goes_dark :
    after (.powerTrip 0 2) (shown setup) (fun t => (t.out.mode, (t.slot 2).state, (t.slot 2).lastFault, t.out.sync)) =
      some (.dark, .fault, some .powerTrip, .bridge) := by decide

/-- A stall and a power trip of one instant end in DARK also where the stall is taken first and the restart entry has opened
the switch (R161); a tick later the open switch cannot trip (R12). -/
theorem test_stall_and_trip_end_dark :
    let stalling : State :=
      { shown setup with sampler := { Sampler.reset with sampling := true, prev := some 0xFFFF, stall := 599 } }
    let tripped (dt : Nat) :=
      match exec (.framePulse 0 { slot := 2, high := false, width := 401 }) stalling with
      | .next t => after (.powerTrip dt 2) t fun u => (u.out.mode, (u.slot 2).state, (u.slot 2).lastFault, (u.queue 2).out.isNone)
      | _ => none
    tripped 0 = some (.dark, .fault, some .powerTrip, true) ∧ tripped 1 = some (.holding, .resting, none, false) := by decide

theorem test_coin_is_banked :
    after (.coinSwitchChange 2400000 .a false)
      { State.reset with coin := { CoinUnit.reset with inA := { state := .timing, since := 0, closed := true } } }
      (fun t => (t.coin.bank, t.coin.totals.coinsA, t.coin.meter1.phase)) = some (1, 1, .on) := by decide

theorem test_noise_is_counted :
    after (.coinSwitchChange 959999 .b false)
      { State.reset with coin := { CoinUnit.reset with inB := { state := .timing, since := 0, closed := true } } }
      (fun t => (t.coin.bank, t.coin.totals.noiseB)) = some (0, 1) := by decide

/-- The last settle frame shows the picture; a pulse one tick too narrow, and an edge to the other level, count for nothing. -/
theorem test_settle_completion_shows :
    let settling := changing { change (some 2) .settle with cut := { Cut.none with settleCount := 1, settleFrames := 2 } }
    after (.framePulse 0 { slot := 2, high := false, width := 401 }) settling
      (fun t => (t.out.mode, t.out.source, t.out.blanked, (t.slot 2).state, t.chg.isNone)) =
      some (.showing, some 2, false, .active, true) ∧
    after (.framePulse 0 { slot := 2, high := false, width := 400 }) settling (fun t => t.chg.map (·.cut.settleCount)) =
      some (some 1) ∧
    after (.framePulse 0 { slot := 2, high := true, width := 401 }) settling (fun t => t.chg.map (·.cut.settleCount)) =
      some (some 1) := by decide

/-- The 600th unchanged frame restarts the board; the eighth irregular frame in a row is a loss. -/
theorem test_watch_finds_stall_and_loss :
    after (.framePulse 0 { slot := 2, high := false, width := 401 })
      { shown setup with sampler := { Sampler.reset with sampling := true, prev := some 0xFFFF, stall := 599 } }
      (fun t => (t.out.mode, t.out.hold.form, (t.slot 2).state, (t.queue 2).out.map (·.done), t.out.hold.timer)) =
      some (.holding, some .restart, .resting, some 1, some 384000000) ∧
    after (.framePulse 0 { slot := 2, high := false, width := 401 })
      { shown setup with out := { (shown setup).out with watch := { lineCount := 255, irregular := 7, timer := some 4800000 } } }
      (fun t => (t.out.mode, t.out.hold.form)) = some (.holding, some .loss) := by decide

theorem test_hold_expiry_darkens :
    after (.holdTimerExpiry 0) holding (fun t => (t.out.mode, (t.slot 2).lastFault)) = some (.dark, some .syncLost) := by decide

theorem test_harness_verdict :
    after (.harnessPatternEnd 0 0xFFFFFE)
      { conf 2 setup .testing false State.reset with
        tester := { run := some { slot := 2, pattern := 1, ends := 96000 }, wait := []
                    record := some { slot := 2, seed := 1, count := 1, done := 0, signature := 0
                                     cannotAssert := Vector.replicate 24 0, heldAsserted := Vector.replicate 24 0
                                     verdict := none } } }
      (fun t => (t.tester.record.map (·.verdict), t.tester.run.isNone)) = some (some (some .pass), true) := by decide

theorem test_restart_opens_switches :
    after (.restartTaken 0)
      { shown setup with link := { Link.reset with
          restartPending := true, sending := some { cls := .group, kind := 0x83, tag := 1, body := [0] } } }
      (fun t => (t.out.mode, (t.slot 2).state, (t.slot 2).power, t.link.cause)) =
      some (.dark, .resting, false, .restart) := by decide

/-- A line of a tick with a frame pulse belongs to the next frame, also where the ended one has its 1,023 (R52). -/
theorem test_line_of_next_frame_kept :
    let full : Measure := { measuring .countA (.done 786432) with countA := some 1023 }
    full.linePulse 5 true = .goes { full with opening := true } ∧
    ({ full with opening := true }).framePulse 5 true =
      .goes { full with phase := .countB, watchFrom := 5, countB := some 1 } := by decide

/-- A line that opens the frame of a frame pulse of its tick is the first line of that frame, the pulse taken before it or
after it (R52). -/
theorem test_line_and_frame_of_one_tick :
    let probing := State.reset.setEngine 0 (some (measuring .countA (.done 786432)))
    let frame (dt : Nat) : Instr := .framePulse dt { slot := 2, high := false, width := 401 }
    let line (dt : Nat) : Instr := .linePulse dt { slot := 2, high := false, opens := true }
    let both (a b : Instr) :=
      match exec a probing with
      | .next t => after b t fun u => (u.engine 0).map fun m => (m.countA, m.countB, m.opening)
      | _ => none
    both (frame 5) (line 0) = some (some (some 264, some 1, false)) ∧
      both (line 5) (frame 0) = some (some (some 264, some 1, false)) := by decide

/-- While a RESTART's reply waits to be sent a held COMPLETION notice stays held beside a free place (R180). -/
theorem test_held_stays_before_restart :
    after (.heldCompletionQueued 0)
      (linked { Link.reset with restartPending := true, txq := [Message.startUp 0], held := [Message.startUp 0] })
      (fun t => (t.link.held.length, t.link.txq.length)) = some (1, 1) := by decide

/-- A frame of an interlaced board is compared with the nearer count, a line of the frame pulse's tick left to the frame that
opens: 271 lines are 8 from count B, 272 are 9 (R52, R101). -/
theorem test_align_takes_nearer_count :
    let cut : Cut := { Cut.none with opened := true, alignCount := 272 }
    cut.alignFrame true (some fieldBoard) = (true, { cut with alignCount := 1 }) ∧
      cut.alignFrame false (some fieldBoard) = (false, { cut with alignCount := 0 }) := by decide

/-- RESET_LINE_HELD releases the connector of a slot under test (R124, R181). -/
theorem test_reset_line_parks_test :
    let testing : State := { conf 2 setup .testing false State.reset with
      tester := { run := some { slot := 2, pattern := 6, ends := 96000 }, wait := [], record := none } }
    testing.connector 2 = 6 ∧
      after (.resetLineHeld 0) testing (fun t => (t.driveMode 2, t.connector 2)) = some (.park, 0) := by decide

/-- A rest timer that ends under a test stops, and the slot stays in TESTING (R165). -/
theorem test_rest_ends_in_testing :
    after (.restTimerEnd 0 2)
      ((conf 2 setup .testing false State.reset).modSlot 2 fun sl => { sl with rest := some 5, testReturn := some .fault })
      (fun t => ((t.slot 2).state, (t.slot 2).rest, (t.slot 2).testReturn, t.now)) =
      some (.testing, none, some .fault, 5) := by decide

/-- A CANCEL in PREPARE marks the running prepare entry, and removes a waiting one (R38, R114). -/
theorem test_cancel_removes_prepare :
    let entry : Entry := { kind := .prepare, steps := [.powerOn, .probe], done := 0, waiver := false, marked := false }
    let waits (s : State) : State := s.modQueue 2 fun q => { q with out := some entry }
    let runs : State := (waits (changing (change (some 2) .prepare))).modQueue 2 fun q => { q with running := some .output }
    let view (t : State) := (t.out.mode, ((t.queue 2).out.map (·.marked), (t.queue 2).ctrl.length))
    after (.cancel 0 5) runs view = some (.dark, some true, 0) ∧
      after (.cancel 0 5) (waits (pausing (changing (change (some 2) .prepare)))) view = some (.dark, none, 1) := by decide

/-- A credit added to a bank of 255 is counted and queues no COIN notice (R140, R148). -/
theorem test_credit_on_full_bank :
    after (.creditAdd 0 1 5) { State.reset with coin := { CoinUnit.reset with bank := 255 } }
      (fun t => (t.coin.bank, t.coin.totals.lost, t.link.txq.map (·.kind))) = some (255, 5, [0x8F]) := by decide

/-- A prepare entry follows the harness test that runs on the target, and the test's end leads to RECLASS, the board with its
last probe being READY again. -/
theorem test_prepare_follows_running_test :
    let testing := ((readyTwo setup).modSlot 2 fun sl => { sl with state := .testing, testReturn := some .ready }).modQueue 2
      fun q => { q with
        ctrl := [{ kind := .controller 7, steps := [.harness 1 1], done := 0, waiver := false, marked := false }]
        running := some .controller }
    let tester : Tester := { run := some { slot := 2, pattern := 1, ends := 96000 }, wait := []
                             record := some { slot := 2, seed := 1, count := 1, done := 0, signature := 0
                                              cannotAssert := Vector.replicate 24 0, heldAsserted := Vector.replicate 24 0
                                              verdict := none } }
    let view (t : State) := (t.chg.map (·.stage), (t.slot 2).state, (t.queue 2).out.isNone)
    after (.select 0 9 2) { testing with tester := tester } view = some (some .prepare, .testing, false) ∧
    (match exec (.select 0 9 2) { testing with tester := tester } with
      | .next t => after (.harnessPatternEnd 0 0xFFFFFE) t view
      | _ => none) = some (some .reclass, .ready, true) := by decide

/-! ## States that meet the statements' hypotheses, clause by clause -/

theorem test_witness_StepRunsFrontCommand :
    ({ State.reset with pending := [.status 0 1] }).pending = [.status 0 1] ∧ State.reset.pending = [] := by decide

/-- A bank of 3 units from three coins. -/
theorem test_witness_StepKeepsBankBalance :
    ∃ s t : State, s.coin.Balanced ∧ s.coin.bank = 3 ∧ step s = .next t :=
  ⟨{ State.reset with
      pending := [.audioStep 0]
      coin := { CoinUnit.reset with bank := 3, totals := { Totals.reset with accepted := 3 } } }, _, ⟨by decide, by decide⟩, rfl, rfl⟩

/-- A receive buffer of 256 bytes. -/
theorem test_witness_StepKeepsLinkBounds :
    ∃ s t : State, s.link.Bounded ∧ s.link.rx.length = 256 ∧ step s = .next t :=
  ⟨{ State.reset with
      pending := [.audioStep 0]
      link := { Link.reset with rx := List.replicate 256 { byte := 0, gap := false, loss := false } } }, _,
    ⟨by decide, by decide, by decide, by decide⟩, by decide, rfl⟩

theorem outputLawful_shown (su : Setup) : (shown su).OutputLawful := by
  refine ⟨rfl, rfl, fun _ => rfl, ?_, ?_, ?_, ?_, ?_, ?_, ?_⟩ <;> intros <;> simp_all [shown, conf, State.modSlot, Hold.none, State.reset, Output.reset]

theorem outputLawful_holding : holding.OutputLawful := by
  refine ⟨rfl, rfl, ?_, ?_, ?_, ?_, ?_, ?_, ?_, ?_⟩ <;> intros <;>
    simp_all [holding, conf, State.modSlot, Hold.none, State.reset, Output.reset]

theorem outputLawful_stalled : stalled.OutputLawful := by
  refine ⟨rfl, rfl, ?_, ?_, ?_, ?_, ?_, ?_, ?_, ?_⟩ <;> intros <;>
    simp_all [stalled, State.modQueue, conf, State.modSlot, Hold.none, State.reset, Output.reset]

theorem test_witness_StepKeepsOutputLaws : ∃ s t : State, s.OutputLawful ∧ s.out.mode = .showing ∧ step s = .next t :=
  ⟨shown plain, _, outputLawful_shown plain, rfl, rfl⟩

/-- The shortest bridge timing. -/
theorem test_witness_StepKeepsBridgeLaws : ∃ s t : State, s.BridgeLawful ∧ s.out.timing.ticks = 1400 ∧ step s = .next t := by
  refine ⟨{ State.reset with out := { Output.reset with timing := { ticks := 1400, lines := 200 } } }, _, ?_, rfl, rfl⟩
  unfold State.BridgeLawful BridgeTiming.InRange
  refine ⟨by decide, by decide, by decide, ?_, ?_⟩ <;> simp [State.reset, State.slot, Slot.reset]

/-- A queue of 4 entries. -/
theorem test_witness_StepKeepsQueueBounds : ∃ s t : State, s.QueuesBounded ∧ (s.queue 0).ctrl.length = 4 ∧ step s = .next t := by
  refine ⟨State.reset.modQueue 0 fun q => { q with ctrl := List.replicate 4 powerOnEntry }, _, ?_, by decide, rfl⟩
  unfold State.QueuesBounded
  decide

theorem test_witness_StepKeepsSettingsRanges :
    ∃ s t : State, s.SettingsInRange ∧ (s.slot 2).setup = some setup ∧ step s = .next t := by
  refine ⟨conf 2 setup .off false State.reset, _, ?_, by decide, rfl⟩
  unfold State.SettingsInRange
  refine ⟨?_, by unfold OutSettings.InRange; decide, by unfold CoinSettings.InRange; decide, by decide, by decide, by decide,
    ?_, by decide, by decide⟩
  · intro i su h
    have hs : su = setup := by
      revert h
      fin_cases i <;> simp [conf, State.slot, State.modSlot, State.reset, Slot.reset, eq_comm]
    subst hs
    refine ⟨by decide, by decide, by decide, by decide, by decide, by decide, ?_⟩
    intro c hc
    simp [setup, profile] at hc
    subst hc
    decide
  · intro n h
    simp [conf, State.modSlot, State.reset, Output.reset] at h

/-- Both chord lines held at the reset, and one of them; a panel line that changes while the part is held in reset. -/
theorem test_witness_HardResetAndResetLine :
    ((0x200400 : Lines).getLsbD 10 = true ∧ (0x200400 : Lines).getLsbD 21 = true) ∧ (0x000400 : Lines).getLsbD 21 = false ∧
    ∃ s t : State, s.link.inReset = true ∧ exec (.panelChange 1 3 true) s = .next t ∧ t.controls.panel = 8 := by
  refine ⟨by decide, by decide, { State.reset with link := { Link.reset with inReset := true } }, _, rfl, rfl, by decide⟩

/-- A RESTART's reply on the line, with slots in every group of states. -/
theorem test_witness_RestartTakenByEveryBlock :
    (State.reset.link.restartSent = false ∧ State.reset.todo = []) ∧
    ∃ s : State, s.link.inReset = false ∧ s.link.restartSent = true ∧
      ((s.slot 0).setup = some plain ∧ (s.slot 0).state = .ready) ∧
      ((s.slot 1).setup = some plain ∧ (s.slot 1).state = .fault ∧ (s.slot 1).power = true) ∧
      (s.slot 2).state = .waiting ∧ ((s.slot 3).state = .fault ∧ (s.slot 3).power = false) ∧
      ((s.slot 4).state = .testing ∧ (s.slot 4).power = false ∧ (s.slot 4).testReturn = some .off ∧
        (s.slot 4).faultAtEnd = false) ∧
      ((s.slot 5).state = .testing ∧ (s.slot 5).power = false ∧ (s.slot 5).testReturn = some .fault ∧
        (s.slot 5).faultAtEnd = true) ∧ (s.slot 7).state = .unconfigured := by
  refine ⟨by decide,
    { (((conf 0 plain .ready true (conf 1 plain .fault true (conf 2 plain .waiting false
        (conf 3 plain .fault false (conf 4 plain .testing false (conf 5 plain .testing false State.reset)))))).modSlot 4
          fun sl => { sl with testReturn := some .off }).modSlot 5
          fun sl => { sl with testReturn := some .fault, faultAtEnd := true }) with
      link := { Link.reset with
        restartPending := true, sending := some { cls := .group, kind := 0x83, tag := 1, body := [0] } } }, rfl, by decide,
    by decide, by decide, by decide, by decide, by decide, by decide, by decide⟩

theorem test_witness_RequestBodyRoundTrip : (ReqOp.setSlot 2 0 raw).wf = true ∧ (ReqOp.unknown 0x15 [1]).wf = true := by decide

/-- A body of 62 bytes, and a command that stands for a request. -/
theorem test_witness_CommandFrameRoundTrip :
    (List.replicate 62 (0 : Byte)).length ≤ 62 ∧ (Instr.setTrim 0 5 3 9).wf = true ∧
    (Instr.setTrim 0 5 3 9).request = some { tag := 5, op := .setTrim 3 9 } := by decide

/-- Lengths 2 and 64 pass and 1 and 65 do not; a frame's last byte and the one before it. -/
theorem test_witness_FramerTakesBytes :
    (Framer.length false ≠ .hunt ∧ ({ byte := 0, gap := true, loss := false } : RxByte).gap = true) ∧
    ({ byte := 2, gap := false, loss := false } : RxByte).gap = false ∧
    (2 ≤ (2 : Byte).toNat ∧ (64 : Byte).toNat ≤ 64 ∧ (1 : Byte).toNat < 2 ∧ 64 < (65 : Byte).toNat) ∧
    ([] : List Byte).length + 1 < 2 ∧ 2 = [(8 : Byte)].length + 1 := by decide

/-- A stopped framer with 255 and with 256 bytes waiting, and one that takes bytes. -/
theorem test_witness_ReceiveByteReachesFramer :
    (∀ n : Nat, (linked { Link.reset with
        restartPending := true, rx := List.replicate n { byte := 0, gap := false, loss := false } }).Between) ∧
    ({ Link.reset with restartPending := true }).taking = false ∧
    (List.replicate 255 ({ byte := 0, gap := false, loss := false } : RxByte)).length < 256 ∧
    256 ≤ (List.replicate 256 ({ byte := 0, gap := false, loss := false } : RxByte)).length ∧
    (State.reset.Between ∧ State.reset.link.taking = true ∧ State.reset.link.rx = []) :=
  ⟨fun _ => between_of _ rfl rfl, by decide, by decide, by decide, between_of _ rfl rfl, by decide, by decide⟩

/-- Free places, 18 used ones, a held notice, also beside a RESTART's reply that waits, a waiting request, an event notice and
a reply at the head. -/
theorem test_witness_PlacesPassToHeldThenWaiting :
    (State.reset.Between ∧ State.reset.link.restartSent = false ∧ State.reset.link.txq = [] ∧ State.reset.link.held = [] ∧
      State.reset.link.placesUsed < 18) ∧
    (∃ s : State, s.Between ∧ 18 ≤ s.link.placesUsed ∧ s.link.restartSent = false ∧
      (∃ m rest, s.link.txq = m :: rest ∧ m.cls = .group) ∧ s.link.held = [] ∧
      s.link.waiting = some { tag := 1, op := .status }) ∧
    (∃ s : State, s.Between ∧ s.link.placesUsed = 17 ∧ s.link.restartPending = false ∧
      (∃ h hs, s.link.held = h :: hs) ∧ ∃ m rest, s.link.txq = m :: rest ∧ m.cls = .group) ∧
    (∃ s : State, s.Between ∧ s.link.restartSent = false ∧ s.link.restartPending = true ∧ s.link.held ≠ [] ∧
      ∃ m rest, s.link.txq = m :: rest ∧ m.cls = .group) ∧
    ∃ s : State, s.Between ∧ ∃ m rest, s.link.txq = m :: rest ∧ m.cls ≠ .group :=
  ⟨⟨between_of _ rfl rfl, by decide, by decide, by decide, by decide⟩,
    ⟨linked { Link.reset with
        txq := List.replicate 18 (Message.startUp 0), waiting := some { tag := 1, op := .status } },
      between_of _ rfl rfl, by decide, by decide, ⟨_, _, rfl, rfl⟩, rfl, rfl⟩,
    ⟨linked { Link.reset with txq := List.replicate 17 (Message.startUp 0), held := [Message.startUp 0] },
      between_of _ rfl rfl, by decide, rfl, ⟨_, _, rfl⟩, _, _, rfl, rfl⟩,
    ⟨linked { Link.reset with restartPending := true, txq := [Message.startUp 0], held := [Message.startUp 0] },
      between_of _ rfl rfl, by decide, rfl, by decide, _, _, rfl, rfl⟩,
    linked { Link.reset with txq := [{ cls := .event .coin, kind := 0x44, tag := 0, body := [] }] }, between_of _ rfl rfl,
    _, _, rfl, by decide⟩

/-- A kind outside the notice set, one in it with and without a notice waiting, and a full queue. -/
theorem test_witness_MessagesJoinQueue :
    (linked { Link.reset with noticeSet := 0 }).link.noticeSet.getLsbD NoticeKey.coin.place = false ∧
    (State.reset.link.noticeSet.getLsbD NoticeKey.supply.place = true ∧
      ∀ x ∈ State.reset.link.txq, x.cls ≠ .event .supply) ∧
    (∃ s : State, s.link.noticeSet.getLsbD NoticeKey.coin.place = true ∧ ∃ x ∈ s.link.txq, x.cls = .event .coin) ∧
    (State.reset.link.held = [] ∧ State.reset.link.placesUsed < 18) ∧
    18 ≤ (linked { Link.reset with txq := List.replicate 18 (Message.startUp 0) }).link.placesUsed :=
  ⟨by decide, by decide,
    ⟨linked { Link.reset with txq := [{ cls := .event .coin, kind := 0x44, tag := 0, body := [] }] }, by decide⟩,
    by decide, by decide⟩

/-- The edges of the kinds and of the notice sets. -/
theorem test_witness_LinkRequestsAnswered :
    State.reset.TakesRequests ∧ ((0 : Byte) = 0 ∧ 0x14 < (0x15 : Byte).toNat) ∧
    (1 ≤ (1 : Byte).toNat ∧ (0x14 : Byte).toNat ≤ 0x14 ∧ [(0 : Byte)].length ≠ bodyLength 0x14) ∧
    (0x7F : Byte).toNat < 128 ∧ 128 ≤ (0x80 : Byte).toNat :=
  ⟨takes_of _ rfl rfl, by decide, by decide, by decide, by decide⟩

theorem test_witness_QueriesAnswerAndChangeNothing :
    State.reset.TakesRequests ∧ 7 < (8 : Byte).toNat ∧ (7 : SlotNo).val = (7 : Byte).toNat ∧ 2 < (3 : Byte).toNat ∧
    (2 : Byte).toNat ≤ 2 := ⟨takes_of _ rfl rfl, by decide, by decide, by decide, by decide⟩

theorem test_witness_ReplyLayouts :
    ((shown setup).slot 2).setup = some setup ∧
    ({ Output.reset with stagedMap := some identityMap }).stagedMap = some identityMap := by decide

/-- The edges of the classes and of the window; a closure that has lasted the new maximum, and none. -/
theorem test_witness_OutputAndCabinetSettingsStored :
    State.reset.TakesRequests ∧ ((7 : Byte) ≠ 0 ∧ (7 : Byte).toNat < 8 ∧ 8 ≤ (8 : Byte).toNat) ∧
    (max 4000 (min 7500 (4000 : Half).toNat) ≤ max 4000 (min 7500 (4000 : Half).toNat)) ∧
    (max 4000 (min 7500 (4000 : Half).toNat) < max 4000 (min 7500 (4001 : Half).toNat)) ∧
    (meterOf 2 = some (some .two) ∧ 2 < (3 : Byte).toNat) ∧
    ¬ (State.reset.coin.input .a).state = .timing ∧
    (({ CoinUnit.reset with inA := { state := .timing, since := 0, closed := true } }).input .a).state = .timing ∧
    5 * 48000 ≤ 240000 - 0 :=
  ⟨takes_of _ rfl rfl, by decide, by decide, by decide, by decide, by decide, by decide, by decide⟩

theorem test_witness_ProfileStoredClamped : storeProfile raw = some profile := by decide

/-- A slot in use as source, one UNCONFIGURED, one configured and OFF; a profile with an unknown policy. -/
theorem test_witness_SetSlotConfiguresAndDisables :
    State.reset.TakesRequests ∧ 7 < (8 : Byte).toNat ∧ storeProfile { raw with powerPolicy := 2 } = none ∧
    ((shown setup).TakesRequests ∧ (shown setup).InUse 2) ∧
    (¬ State.reset.InUse 0 ∧ (State.reset.slot 0).setup = none ∧ (State.reset.slot 0).state = .unconfigured) ∧
    (¬ (conf 2 setup .off false State.reset).InUse 2 ∧
      ((conf 2 setup .off false State.reset).slot 2).setup = some setup ∧
      ((conf 2 setup .off false State.reset).slot 2).state = .off) := by
  refine ⟨takes_of _ rfl rfl, by decide, by decide, ⟨takes_of _ rfl rfl, .inl rfl⟩, ⟨?_, by decide, by decide⟩, ?_, by decide,
    by decide⟩ <;>
    simp [State.InUse, conf, State.reset, Output.reset, State.queue, Queue.reset, State.modSlot]

/-- A source slot, another one, and a map with the last source and one beyond it. -/
theorem test_witness_TrimAndMapStoredOrStaged :
    ((shown setup).TakesRequests ∧ ((shown setup).slot 2).setup = some setup ∧ (shown setup).out.source = some 2) ∧
    (readyTwo setup).out.source ≠ some 2 ∧ (State.reset.slot 0).setup = none ∧
    (∃ n : Fin 24, 25 < (Vector.replicate 24 (26 : Byte))[n].toNat) ∧
    (∀ n : Fin 24, (Vector.replicate 24 MapSource.asserted)[n].code = (Vector.replicate 24 (25 : Byte))[n].toNat) :=
  ⟨⟨takes_of _ rfl rfl, by decide, by decide⟩, by decide, by decide, by decide, by decide⟩

/-- A list of four with one line twice, an empty list; the lines held, and not. -/
theorem test_witness_SetChordStartsAfresh :
    State.reset.TakesRequests ∧
    storeChord { count := 4, line0 := 23, line1 := 0, line2 := 23, line3 := 5, hold := 100 } = some ([23, 0, 5], 250) ∧
    storeChord { count := 0, line0 := 0, line1 := 0, line2 := 0, line3 := 0, hold := 100 } = none ∧
    (∀ n ∈ ([23, 0, 5] : List LineNo), (0x800021 : Lines).getLsbD n.val = true) ∧
    (∃ n ∈ ([23, 0, 5] : List LineNo), (0 : Lines).getLsbD n.val = false) :=
  ⟨takes_of _ rfl rfl, by decide, by decide, by decide, by decide⟩

theorem test_witness_CaptureSetsFlag :
    1 < (2 : Byte).toNat ∧ (State.reset.TakesRequests ∧ State.reset.controls.capture = false) ∧
    ∃ s : State, s.TakesRequests ∧ s.controls.capture = true :=
  ⟨by decide, ⟨takes_of _ rfl rfl, rfl⟩,
    { State.reset with controls := { Controls.reset with capture := true } }, takes_of _ rfl rfl, rfl⟩

/-- The permit held; the target waiting behind another slot; and no target. -/
theorem test_witness_GrantGoesToWinner :
    State.reset.supply.waitList = [] ∧
    (∃ s : State, s.supply.permit = none ∧ s.supply.dip = false ∧ (s.slot 2).setup = some plain ∧ s.target = some 2 ∧
      2 ∈ s.supply.waitList ∧ s.supply.waitList.head? = some 1) ∧
    ∃ s : State, s.supply.permit = none ∧ s.supply.dip = false ∧ (s.slot 1).setup = some plain ∧
      s.supply.waitList.head? = some 1 ∧ s.target = none :=
  ⟨by decide,
    ⟨{ changing (change (some 2) .prepare) with
        supply := { permit := none, waitList := [1, 2], dip := false, level := 8 } }, by decide⟩,
    { conf 1 plain .waiting false State.reset with
        supply := { permit := none, waitList := [1], dip := false, level := 8 } }, by decide⟩

theorem test_witness_SupplyDipMarkSetAndCleared :
    (State.reset.TakesRequests ∧ State.reset.Between ∧ State.reset.supply.dip = false) ∧
    ∃ s : State, s.TakesRequests ∧ s.Between ∧ s.supply.dip = true :=
  ⟨⟨takes_of _ rfl rfl, between_of _ rfl rfl, rfl⟩,
    { State.reset with supply := { permit := none, waitList := [], dip := true, level := 8 } }, takes_of _ rfl rfl,
    between_of _ rfl rfl, rfl⟩

/-- One slot for each group of states of POWER_ON and POWER_OFF. -/
theorem test_witness_PowerStepsByState :
    ∃ s : State, ((s.slot 0).state = .off ∧ (0 : SlotNo) ∉ s.supply.waitList) ∧
      ((s.slot 1).state = .fault ∧ (s.slot 1).power = false ∧ (s.slot 1).rest = none) ∧ (s.slot 2).state = .resting ∧
      (s.slot 3).state = .waiting ∧ ((s.slot 4).state = .fault ∧ (s.slot 4).power = true ∧ (s.slot 4).setup = some plain) ∧
      ((s.slot 5).state = .starting ∧ (s.slot 5).setup = some plain) ∧ s.chg = none :=
  ⟨conf 0 plain .off false (conf 1 plain .fault false (conf 2 plain .resting false (conf 3 plain .waiting false
    (conf 4 plain .fault true (conf 5 plain .starting true State.reset))))), by decide⟩

/-- A warm-up that ends with a shed pending; a READY slot to be shed, and one without the flag. -/
theorem test_witness_RestAndWarmUpEnd_shed :
    (∃ s : State, s.Between ∧ (s.slot 0).setup = some plain ∧ (s.slot 0).warm = some 5 ∧ (s.slot 0).shedPending = true ∧
      (s.slot 0).faultAtEnd = false ∧ s.queue 0 = { ctrl := [], out := none, running := none, pauseEnd := none } ∧
      s.chg = none ∧ s.supply.waitList = []) ∧
    (∃ s : State, (s.slot 2).setup = some plain ∧ (s.slot 2).shedPending = true ∧ (s.queue 2).ctrl = [] ∧
      (s.queue 2).out = none ∧ s.target ≠ some 2 ∧ (s.slot 2).state = .ready) ∧
    ((readyTwo plain).slot 2).setup = some plain ∧ ((readyTwo plain).slot 2).shedPending = false := by
  refine ⟨⟨(conf 0 plain .starting true State.reset).modSlot 0 fun sl => { sl with warm := some 5, shedPending := true },
      between_of _ rfl rfl, by decide, by decide, by decide, by decide, by decide, rfl, rfl⟩,
    ⟨(readyTwo plain).modSlot 2 fun sl => { sl with shedPending := true }, by decide⟩, by decide⟩

/-- Rest timers with and without a power-on waiting, and a warm-up with an empty queue and with a POWER_ON that waits. -/
theorem test_witness_RestAndWarmUpEnd :
    (State.reset.Between ∧ (State.reset.slot 0).rest = none ∧ (State.reset.slot 0).warm = none) ∧
    (∃ s : State, s.Between ∧ (s.slot 0).rest = some 5 ∧ (s.slot 0).state = .resting ∧ (s.slot 0).restWaiting = false ∧
      (s.slot 1).rest = some 5 ∧ (s.slot 1).state = .fault ∧ (s.slot 1).power = false ∧ (s.slot 1).restWaiting = true ∧
      (1 : SlotNo) ∉ s.supply.waitList) ∧
    ∃ s : State, s.Between ∧ (s.slot 0).warm = some 5 ∧ (s.slot 0).shedPending = false ∧ (s.slot 0).faultAtEnd = false ∧
      ((s.queue 0).ctrl = [] ∧ (s.queue 0).out = none ∧ (s.queue 0).running = none) ∧ (s.slot 2).warm = some 5 ∧
      (∃ e, (s.queue 2).ctrl = [e] ∧ e.kind = .controller 7 ∧ e.step = some .powerOn ∧ e.done + 1 = e.steps.length) ∧
      (s.queue 2).out = none ∧ (s.queue 2).running = some .controller ∧ s.supply.waitList = [] := by
  refine ⟨⟨between_of _ rfl rfl, by decide, by decide⟩,
    ⟨((conf 0 plain .resting false (conf 1 plain .fault false State.reset)).modSlot 0 fun sl =>
        { sl with rest := some 5 }).modSlot 1 fun sl => { sl with rest := some 5, restWaiting := true },
      between_of _ rfl rfl, by decide⟩,
    (((conf 0 plain .starting true (conf 2 plain .starting true State.reset)).modSlot 0 fun sl =>
        { sl with warm := some 5 }).modSlot 2 fun sl => { sl with warm := some 5 }).modQueue 2 fun _ =>
          { ctrl := [{ kind := .controller 7, steps := [.powerOn], done := 0, waiver := false, marked := false }]
            out := none, running := some .controller, pauseEnd := none },
    between_of _ rfl rfl, by decide, by decide, by decide, by decide, by decide, ⟨_, rfl, by decide⟩, by decide⟩

/-- A powered slot SHOWING, a slot whose switch is open, and one that stalled in this tick, at that tick and a tick later. -/
theorem test_witness_PowerTripFaultsSlot :
    ((shown setup).Between ∧ (shown setup).OutputLawful ∧ ((shown setup).slot 2).power = true ∧
      ((shown setup).slot 2).setup = some setup ∧ (shown setup).out.source = some 2) ∧
    (((shown setup).slot 0).power = false ∧ (shown setup).out.mode ≠ .holding) ∧
    (stalled.Between ∧ stalled.OutputLawful ∧ (stalled.slot 2).power = false ∧ (stalled.slot 2).setup = some setup ∧
      stalled.out.mode = .holding ∧ stalled.out.source = some 2 ∧ stalled.out.hold.stalledAt = some (stalled.advance 0).now) ∧
    stalled.out.hold.stalledAt ≠ some (stalled.advance 1).now :=
  ⟨⟨between_of _ rfl rfl, outputLawful_shown setup, by decide, by decide, by decide⟩, ⟨by decide, by decide⟩,
    ⟨between_of _ rfl rfl, outputLawful_stalled, by decide, by decide, rfl, rfl, rfl⟩, by decide⟩

/-- A running entry with a step left, and with none; a running PAUSE before another, and as the last step. -/
theorem test_witness_StepEndContinuesOrEndsEntry :
    ((pausing State.reset).Between ∧ (State.reset.queue 0).pauseEnd = none ∧ (pausing State.reset).todo = []) ∧
    (∃ e, ((pausing State.reset).queue 2).ctrl = [e] ∧ e.kind = .controller 7 ∧ e.marked = false ∧
      e.steps.length = e.done + 1 ∧ e.steps.length ≤ e.done + 1) ∧
    ((pausing State.reset).queue 2).running = some .controller ∧ ((pausing State.reset).queue 2).out = none ∧
    ((pausing State.reset).queue 2).pauseEnd = some 4800000 ∧ ((pausing State.reset).slot 2).shedPending = false ∧
    ∃ e : Entry, e.kind = .controller 7 ∧ e.marked = false ∧ e.done + 1 < e.steps.length ∧
      e.steps[e.done + 1]? = some (.pause 100) :=
  ⟨⟨between_of _ rfl rfl, by decide, by decide⟩, ⟨_, rfl, by decide⟩, by decide, by decide, by decide, by decide,
    { kind := .controller 7, steps := [.pause 200, .pause 100], done := 0, waiver := false, marked := false }, by decide⟩

/-- The refusals of SLOT-WORK at their edges, a full queue, a running one and an empty one. -/
theorem test_witness_SlotWorkStoresAndPlacesEntry :
    (readSteps 1 (Vector.replicate 4 { kind := 5, params := 0 }) = some [.pause 100] ∧
      readSteps 5 (Vector.replicate 4 { kind := 5, params := 0 }) = none) ∧
    ((readyTwo plain).TakesRequests ∧ ((readyTwo plain).slot 2).state ≠ .unconfigured ∧ (readyTwo plain).queue 2 =
      { ctrl := [], out := none, running := none, pauseEnd := none }) ∧
    (State.reset.slot 0).state = .unconfigured ∧
    ((pausing (readyTwo plain)).TakesRequests ∧ ((pausing (readyTwo plain)).queue 2).ctrl.length < 4 ∧
      ((pausing (readyTwo plain)).queue 2).running ≠ none) ∧
    ∃ s : State, s.TakesRequests ∧ (s.slot 2).state ≠ .unconfigured ∧ 4 ≤ (s.queue 2).ctrl.length :=
  ⟨by decide, ⟨takes_of _ rfl rfl, by decide, by decide⟩, by decide, ⟨takes_of _ rfl rfl, by decide, by decide⟩,
    (readyTwo plain).modQueue 2 fun q => { q with ctrl := List.replicate 4 powerOnEntry },
    takes_of _ rfl rfl, by decide, by decide⟩

/-- An empty queue, one entry that pauses, and two of which the first pauses; running steps of each kind. -/
theorem test_witness_AbortWorkEndsEntries :
    (State.reset.TakesRequests ∧ State.reset.out.mode ≠ .holding ∧ (State.reset.slot 0).shedPending = false ∧
      (State.reset.queue 0).ctrl = [] ∧ (State.reset.queue 0).out = none ∧ (State.reset.queue 0).running = none) ∧
    ((pausing State.reset).TakesRequests ∧ (pausing State.reset).out.mode ≠ .holding ∧
      ((pausing State.reset).slot 2).shedPending = false ∧
      ((pausing State.reset).queue 2).ctrl =
        [{ kind := .controller 7, steps := [.pause 100], done := 0, waiver := false, marked := false }] ∧
      ((pausing State.reset).queue 2).out = none ∧ ((pausing State.reset).queue 2).running = some .controller) ∧
    (∃ s : State, s.TakesRequests ∧ s.out.mode ≠ .holding ∧ (s.slot 2).shedPending = false ∧ (s.slot 2).faultAtEnd = false ∧
      (s.queue 2).step = some (.pause 100) ∧
      ∃ e f, (s.queue 2).ctrl = [e, f] ∧ (s.queue 2).out = none ∧ (s.queue 2).running = some .controller ∧
        e.kind = .controller 7 ∧ f.kind = .controller 8 ∧ e.step = some (.pause 100) ∧ f.done = 0) ∧
    ∃ s : State, (s.queue 2).step = some .powerOn ∧ (s.slot 2).state = .waiting ∧ s.testRunsOn 2 = false :=
  ⟨⟨takes_of _ rfl rfl, by decide, by decide, by decide, by decide, by decide⟩,
    ⟨takes_of _ rfl rfl, by decide⟩,
    ⟨State.reset.modQueue 2 fun q => { q with
      ctrl := [{ kind := .controller 7, steps := [.pause 100], done := 0, waiver := false, marked := false },
        { kind := .controller 8, steps := [.powerOn], done := 0, waiver := false, marked := false }]
      running := some .controller, pauseEnd := some 4800000 },
      takes_of _ rfl rfl, by decide, by decide, by decide, by decide, _, _, rfl, by decide⟩,
    (conf 2 plain .waiting false State.reset).modQueue 2 fun q => { q with
      ctrl := [{ kind := .controller 7, steps := [.powerOn], done := 0, waiver := false, marked := false }]
      running := some .controller }, by decide⟩

/-- A running PROBE step whose request waits for two busy engines, one whose engine has a request to take, and a running
HARNESS test. -/
theorem test_witness_AbortWorkEndsEntries_runs :
    let probing := ((conf 2 plain .probing true State.reset).modSlot 2 fun sl => { sl with probeReturn := some .warm }).modQueue
      2 fun q => { q with
        ctrl := [{ kind := .controller 7, steps := [.probe], done := 0, waiver := false, marked := false }]
        running := some .controller }
    let busy (i : SlotNo) : Measure := { measuring .countA .notStarted with req := { kind := .work, slot := i } }
    ((probing.queue 2).step = some .probe ∧ (probing.slot 2).probeReturn = some .warm ∧
      (probing.slot 2).faultAtEnd = false ∧ (probing.slot 2).state = .probing) ∧
    (∃ s : State, s.queues = probing.queues ∧ s.slots = probing.slots ∧ s.engine 0 = some (busy 0) ∧
      s.engine 1 = some (busy 1) ∧ s.probeList = [{ kind := .work, slot := 2 }]) ∧
    (∃ s : State, s.queues = probing.queues ∧ s.slots = probing.slots ∧ s.engine 0 = some (busy 2) ∧
      s.engine 1 = some (busy 1) ∧ s.probeList = [{ kind := .work, slot := 0 }]) ∧
    ∃ s : State, (s.slot 2).faultAtEnd = false ∧ (s.queue 2).step = some (.harness 1 8) ∧ s.testRunsOn 2 = true ∧
      (s.slot 2).testReturn = some .off := by
  refine ⟨by decide,
    ⟨{ ((conf 2 plain .probing true State.reset).modSlot 2 fun sl => { sl with probeReturn := some .warm }).modQueue
      2 fun q => { q with
        ctrl := [{ kind := .controller 7, steps := [.probe], done := 0, waiver := false, marked := false }]
        running := some .controller } with
      engines := #v[some { measuring .countA .notStarted with req := { kind := .work, slot := 0 } },
        some { measuring .countA .notStarted with req := { kind := .work, slot := 1 } }]
      probeList := [{ kind := .work, slot := 2 }] }, rfl, rfl, rfl, rfl, rfl⟩,
    ⟨{ ((conf 2 plain .probing true State.reset).modSlot 2 fun sl => { sl with probeReturn := some .warm }).modQueue
      2 fun q => { q with
        ctrl := [{ kind := .controller 7, steps := [.probe], done := 0, waiver := false, marked := false }]
        running := some .controller } with
      engines := #v[some { measuring .countA .notStarted with req := { kind := .work, slot := 2 } },
        some { measuring .countA .notStarted with req := { kind := .work, slot := 1 } }]
      probeList := [{ kind := .work, slot := 0 }] }, rfl, rfl, rfl, rfl, rfl⟩,
    { ((conf 2 plain .testing false State.reset).modSlot 2 fun sl => { sl with testReturn := some .off }).modQueue
      2 fun q => { q with
        ctrl := [{ kind := .controller 7, steps := [.harness 1 8], done := 0, waiver := false, marked := false }]
        running := some .controller } with
      tester := { run := some { slot := 2, pattern := 1, ends := 5 }, wait := [], record := none } }, by decide⟩

/-- The edges of the counts, met by the worked case and by an interlaced pair. -/
theorem test_witness_ProbeFiguresDerived :
    (1 ≤ 786432 ∧ 786432 ≤ 16777215 ∧ 1 ≤ 264 ∧ 264 ≤ 1023) ∧ (goodRecord 786432 264 264).verdict = .good ∧
    (goodRecord 786432 262 263).derived.map (·.interlaced) = some true := by decide

/-- A probe in each phase, at 0, 1, 254, 255, 1,022 and 1,023 of its counts, and one with a line that opens a frame. -/
theorem test_witness_ProbeTakesPulses :
    ((measuring .countA .notStarted).phase = .countA ∧ (measuring .countA .notStarted).countA = some 264 ∧
      (measuring .countA .notStarted).firstAt = some 0 ∧ 5 < (measuring .countA .notStarted).watchFrom + 4800000) ∧
    (∃ m : Measure, m.phase = .countB ∧ m.countB = some 1022 ∧ m.line = .done 7 ∧ m.firstAt = some 0 ∧ 1022 < 1023) ∧
    (∃ m : Measure, m.phase = .countA ∧ m.countA = some 1023 ∧ m.firstAt = some 0 ∧ m.line = .done 7 ∧ m.opening = true) ∧
    (∃ m : Measure, m.phase = .countB ∧ m.countB = some 1023 ∧ m.line = .done 7) ∧
    ((measuring .framesDone (.running 254 0)).line = .running 254 0 ∧ 254 < 255) ∧
    (measuring .framesDone (.running 255 0)).line = .running 255 0 ∧ 5 - 0 ≤ 16777215 ∧ 0 < 5 ∧
    (∀ t, (measuring .countB (.running 3 0)).line ≠ .done t) ∧ 16777215 < 16777216 - 0 := by
  refine ⟨by decide, ⟨{ measuring .countB (.done 7) with countB := some 1022 }, by decide⟩,
    ⟨{ measuring .countA (.done 7) with countA := some 1023, opening := true }, by decide⟩,
    ⟨{ measuring .countB (.done 7) with countB := some 1023 }, by decide⟩, by decide, rfl, by decide, by decide, ?_, by decide⟩
  intro t h
  simp [measuring] at h

/-- An edge to and off the pulse level, of 400 and 401 ticks; a slot and the bridge as sync source; an engine on the slot and
none, a line that opens its tick's frame before that frame pulse and after it; the edges of the window. -/
theorem test_witness_PulsesReachEngineAndSetLevels :
    (State.reset.Between ∧ (State.reset.tap 2).linePulseHigh ≠ true ∧ (State.reset.tap 2).framePulseHigh ≠ true ∧
      400 < 401 ∧ 401 ≤ 401) ∧
    ((shown plain).out.sync = .slot 2 ∧ State.reset.out.sync = .bridge) ∧
    (State.reset.out.mode = .dark ∧ State.reset.engineOn 0 2 = false ∧ State.reset.engineOn 1 2 = false) ∧
    (∃ (s : State) (m n : Measure), s.Between ∧ s.out.mode = .dark ∧ s.engine 0 = some m ∧ m.req.slot = 2 ∧
      (∀ j, j ≠ 0 → s.engineOn j 2 = false) ∧ (s.tap 2).lastFrame ≠ some s.now ∧
      m.linePulse s.now (true && decide ((s.tap 2).lastFrame ≠ some s.now)) = .goes n ∧ n.opening = true) ∧
    (∃ (s : State) (m n : Measure), s.Between ∧ s.out.mode = .dark ∧ s.engine 0 = some m ∧ m.req.slot = 2 ∧
      (∀ j, j ≠ 0 → s.engineOn j 2 = false) ∧ (s.tap 2).lastFrame = some s.now ∧
      m.linePulse s.now (true && decide ((s.tap 2).lastFrame ≠ some s.now)) = .goes n ∧ n.countA = some 265) ∧
    (1048576 : Nat) ≤ 1048576 :=
  ⟨⟨between_of _ rfl rfl, by decide, by decide, by decide, by decide⟩, ⟨rfl, rfl⟩, ⟨rfl, by decide, by decide⟩,
    ⟨State.reset.setEngine 0 (some (measuring .countA (.running 3 0))), measuring .countA (.running 3 0), _,
      between_of _ rfl rfl, rfl, by decide, rfl, by decide, by decide, rfl, rfl⟩,
    ⟨(State.reset.setEngine 0 (some (measuring .countA (.running 3 0)))).modTap 2 fun t => { t with lastFrame := some 0 },
      measuring .countA (.running 3 0), _, between_of _ rfl rfl, rfl, by decide, rfl, by decide, by decide, rfl, rfl⟩, by decide⟩

/-- A FREE engine, a released probe, a WORK and an OUTPUT probe with its line count running, and an expired hold. -/
theorem test_witness_ProbeEndsAndIsApplied :
    (State.reset.Between ∧ State.reset.engine 1 = none) ∧
    (∀ kind : ReqKind, ∃ (s : State) (m : Measure), s.Between ∧ s.engine 0 = some m ∧ s.probeList = [] ∧
      m.released = false ∧ m.req.kind = kind ∧ m.line = .running 3 0 ∧
      max s.now (0 + 16777216) < m.watchFrom + 4800000) ∧
    ({ measuring .countA .notStarted with released := true }).released = true ∧
    (∀ n start, (measuring .countA .notStarted).line ≠ .running n start) ∧
    (∃ s : State, (s.slot 2).state = .probing ∧ (s.slot 2).faultAtEnd = false) ∧
    (∃ s : State, (s.slot 2).state = .probing ∧ (s.slot 2).faultAtEnd = true) ∧
    (lowBoard.verdict = .good ∧ ((measuring .countA .notStarted).failRecord .noVsync).verdict ≠ .good) := by
  refine ⟨⟨between_of _ rfl rfl, by decide⟩,
    fun kind => ⟨State.reset.setEngine 0
        (some { measuring .countA (.running 3 0) with req := { kind := kind, slot := 2 }, watchFrom := 16000000 }),
      { measuring .countA (.running 3 0) with req := { kind := kind, slot := 2 }, watchFrom := 16000000 },
      between_of _ rfl rfl, rfl, rfl, rfl, rfl, rfl, by cases kind <;> decide⟩, rfl, ?_,
    ⟨conf 2 plain .probing true State.reset, by decide⟩,
    ⟨(conf 2 plain .probing true State.reset).modSlot 2 fun sl => { sl with faultAtEnd := true }, by decide⟩, by decide⟩
  intro n start h
  simp [measuring] at h

/-- A held slot with a record in the class output's class, one the monitor rejects and one of another verdict; the same slot
READY with that record as last probe after its restart entry; a rejoin under way, a held slot in FAULT, and one not held. -/
theorem test_witness_ProbeEndsAndIsApplied_held :
    (holding.out.mode = .holding ∧ holding.out.source = some 2 ∧ (holding.slot 2).setup = some plain ∧
      holding.out.hold.rejoin = none ∧ (holding.slot 2).state = .active ∧ lowBoard.verdict = .good ∧
      lowBoard.derived = some lowFigures ∧ lowFigures.cls = holding.out.classOut ∧
      holding.settings.accepts lowFigures.cls = true ∧ holding.settings.windowLow ≤ lowFigures.frameRate ∧
      lowFigures.frameRate ≤ holding.settings.windowHigh) ∧
    (∃ s : State, s.out = holding.out ∧ s.slots = holding.slots ∧ ¬ s.settings.windowLow ≤ lowFigures.frameRate) ∧
    ((measuring .countA .notStarted).failRecord .noVsync).verdict ≠ .good ∧
    (∃ s : State, s.out = holding.out ∧ (s.slot 2).state = .ready ∧ (s.slot 2).lastProbe = some lowBoard ∧
      (s.slot 2).setup = some plain) ∧
    ({ Hold.none with rejoin := some .align }).rejoin ≠ none ∧ ((conf 2 plain .fault true holding).slot 2).state = .fault ∧
    State.reset.out.mode ≠ .holding ∧ holding.out.source ≠ some 3 ∧ (Result.noVsync ≠ .ok) :=
  ⟨by decide, ⟨{ holding with settings := { OutSettings.reset with windowLow := 5920 } }, rfl, rfl, by decide⟩, by decide,
    ⟨{ readyTwo plain with out := holding.out }, rfl, by decide⟩, by decide⟩

/-- No changeover; a RECLASS that counts bridge frames, its third start before and after the deadline; one that changed the
class. -/
theorem test_witness_BridgeFramesAndDeadlineBeginAlign :
    (State.reset.Between ∧ State.reset.chg = none) ∧
    (∃ s : State, s.Between ∧ s.chg = some { change (some 2) .reclass with starts := some 2 } ∧
      max s.now (s.out.frameStart + s.out.current.ticks * s.out.current.lines) < s.classDeadline) ∧
    (∃ s : State, s.Between ∧ s.chg = some { change (some 2) .reclass with starts := some 2 } ∧ s.classDeadline ≤ s.now) ∧
    (change (some 2) .reclass).starts = none :=
  ⟨⟨between_of _ rfl rfl, rfl⟩,
    ⟨changing { change (some 2) .reclass with starts := some 2 }, between_of _ rfl rfl, rfl, by decide⟩,
    ⟨{ changing { change (some 2) .reclass with starts := some 2 } with classDeadline := 0 }, between_of _ rfl rfl, rfl,
      by decide⟩, rfl⟩

/-- FADE at the last step before mute, with the outgoing slot as sync source. -/
theorem test_witness_AudioStepMovesGain :
    State.reset.chg = none ∧
    ∃ s : State, s.Between ∧ s.chg = some (change (some 2) .fade) ∧ s.out.gain = 62 ∧ s.out.target = 63 ∧
      s.coin.pulse = none ∧ s.out.sync ≠ .bridge :=
  ⟨rfl, { changing (change (some 2) .fade) with
    out := { Output.reset with mode := .changing, gain := 62, sync := .slot 3, blanked := false } },
    between_of _ rfl rfl, rfl, rfl, rfl, rfl, by decide⟩

theorem test_witness_LossHoldsAndExpiryFaults :
    (State.reset.Between ∧ State.reset.out.watch.timer = none ∧ State.reset.out.hold.timer = none) ∧
    ((shown plain).Between ∧ (shown plain).out.watch.timer = some 4800000 ∧ (shown plain).out.source = some 2 ∧
      ((shown plain).slot 2).setup = some plain) ∧
    (holding.Between ∧ holding.out.hold.timer = some 144000000 ∧ holding.out.mode = .holding ∧ holding.out.source = some 2 ∧
      (holding.slot 2).state ∈ [SlotState.active, .ready, .warm, .resting, .off, .fault] ∧
      holding.queue 2 = { ctrl := [], out := none, running := none, pauseEnd := none } ∧
      (holding.slot 2).shedPending = false ∧ holding.out.stagedLevel = none ∧ holding.out.stagedMap = none) :=
  ⟨⟨between_of _ rfl rfl, rfl, rfl⟩, ⟨between_of _ rfl rfl, rfl, rfl, by decide⟩, between_of _ rfl rfl, rfl, rfl, rfl,
    by decide, by decide, by decide, rfl, rfl⟩

/-- The eighth irregular frame, one 9 lines short, and a regular frame 8 lines short; a stall count that reaches the limit of
600, under either policy, and one that stays below it; an interlaced board, 8 and 9 lines from the nearer count, with a line
pulse in the frame pulse's tick and without. -/
theorem test_witness_WatchComparesFrames :
    ((shown plain).out.mode = .showing ∧ (shown plain).out.source = some 2 ∧
      (shown plain).out.sourceProbe = some lowBoard ∧ lowBoard.countA = some 264 ∧ lowBoard.countB = some 264 ∧
      lowBoard.derived = some lowFigures ∧ lowFigures.interlaced = false ∧ ((shown plain).slot 2).setup = some plain) ∧
    (¬ linesAway 255 (nearerCount lowFigures.interlaced 264 264 255) ≤ 8 ∧ 8 ≤ (shown plain).out.watch.irregular + 1) ∧
    linesAway 256 (nearerCount lowFigures.interlaced 264 264 256) ≤ 8 ∧
    (fieldBoard.countA = some 262 ∧ fieldBoard.countB = some 263 ∧ fieldBoard.derived = some fieldFigures ∧
      fieldFigures.interlaced = true ∧ linesAway (272 - 1) (nearerCount fieldFigures.interlaced 262 263 (272 - 1)) ≤ 8 ∧
      ¬ linesAway 272 (nearerCount fieldFigures.interlaced 262 263 272) ≤ 8) ∧
    plain.profile.stallLimit = 0 ∧
    (((shown setup).slot 2).setup = some setup ∧ setup.profile.stallLimit = 600 ∧ setup.profile.stallPolicy = .restart) ∧
    ({ profile with stallPolicy := .notify }).stallPolicy = .notify ∧
    (600 ≤ min 65535 (599 + 1) ∧ ¬ min 65535 (598 + 1) ≥ 600) := by decide

/-- The showing slot and another one; each stage of a changeover that takes pulses, and one that does not. -/
theorem test_witness_PulsesReachOutput :
    ((shown plain).Between ∧ (shown plain).engineOn 0 2 = false ∧ (shown plain).engineOn 1 2 = false ∧
      (shown plain).out.mode = .showing ∧ (shown plain).out.source = some 2 ∧ (shown plain).sampler.sampling = true ∧
      (shown plain).out.source ≠ some 3 ∧ 401 ≤ 401) ∧
    (∀ st : Stage, (changing (change (some 2) st)).Between ∧ (changing (change (some 2) st)).out.mode = .changing ∧
      (changing (change (some 2) st)).chg = some (change (some 2) st) ∧ (change (some 2) st).stage = st ∧
      (change (some 2) st).toSlot = some 2) ∧
    ({ Output.reset with sync := .slot 2 }).sync = .slot 2 :=
  ⟨⟨between_of _ rfl rfl, by decide, by decide, rfl, rfl, rfl, by decide, by decide⟩,
    fun _ => ⟨between_of _ rfl rfl, rfl, rfl, rfl, rfl⟩, rfl⟩

/-- A held slot that is probed, with FREE and with busy engines, and one in FAULT; a rejoin's ALIGN at 8 and 9 lines off, and
its SETTLE one before and at its last frame. -/
theorem test_witness_PulsesReachOutput_held :
    (holding.Between ∧ holding.engineOn 0 2 = false ∧ holding.engineOn 1 2 = false ∧ holding.out.mode = .holding ∧
      holding.out.source = some 2 ∧ holding.out.hold.rejoin = none ∧ holding.out.hold.probing = true ∧
      holding.outputRequest = false ∧ (holding.slot 2).state = .active ∧ holding.engine 0 = none ∧
      holding.probeList = []) ∧
    (∃ s : State, s.out = holding.out ∧ s.slots = holding.slots ∧ s.engine 0 ≠ none ∧ s.engine 1 ≠ none ∧
      s.engineOn 0 2 = false ∧ s.engineOn 1 2 = false ∧ s.outputRequest = false) ∧
    ((conf 2 plain .fault true holding).slot 2).state = .fault ∧
    (holding.out.sourceProbe = some lowBoard ∧ lowBoard.countA = some 264 ∧ lowBoard.countB = some 264 ∧
      lowBoard.derived = some lowFigures ∧ (holding.slot 2).setup = some plain ∧ plain.profile.settleFrames ≠ 0) ∧
    (linesAway 272 (nearerCount lowFigures.interlaced 264 264 272) ≤ 8 ∧
      ¬ linesAway 273 (nearerCount lowFigures.interlaced 264 264 273) ≤ 8) ∧
    (fieldBoard.derived = some fieldFigures ∧ linesAway (272 - 1) (nearerCount fieldFigures.interlaced 262 263 (272 - 1)) ≤ 8 ∧
      ¬ linesAway 272 (nearerCount fieldFigures.interlaced 262 263 272) ≤ 8) ∧ (0 + 1 < 2 ∧ 2 ≤ 1 + 1) := by
  refine ⟨⟨between_of _ rfl rfl, by decide⟩,
    ⟨{ holding with engines := #v[some { measuring .countA .notStarted with req := { kind := .work, slot := 0 } },
        some { measuring .countA .notStarted with req := { kind := .work, slot := 1 } }] }, rfl, rfl, by decide⟩, by decide⟩

/-- The first and the last sampled line at the first and the last point, and a line that is not sampled. -/
theorem test_witness_SamplesFoldAndFramesClose :
    (∃ s : State, s.Between ∧ s.sampler.sampling = true ∧ s.sampler.line = some 24 ∧ s.sampler.point = 63 ∧
      s.out.sourceProbe = some lowBoard ∧ lowBoard.derived = some lowFigures) ∧
    (0 ≤ 31 ∧ 24 = 24 + 6 * 0 ∧ 210 = 24 + 6 * 31) ∧ (∀ k, k ≤ 31 → 216 ≠ 24 + 6 * k) ∧
    (State.reset.Between ∧ State.reset.sampler.sampling = false) ∧ (some (3 : Half) = some 3 ∧ (3 : Half) ≠ 4) :=
  ⟨⟨{ shown plain with sampler := { Sampler.reset with sampling := true, line := some 24, point := 63 } },
      between_of _ rfl rfl, rfl, rfl, rfl, rfl, by decide⟩, by decide, fun k _ => by omega, ⟨between_of _ rfl rfl, rfl⟩,
    by decide⟩

/-- A SELECT of each refused kind, and each ALREADY case. -/
theorem test_witness_SelectChecksInOrder :
    (State.reset.TakesRequests ∧ 8 < (9 : Byte).toNat ∧ (State.reset.slot 0).state = .unconfigured ∧
      State.reset.out.mode = .dark) ∧
    ((readyTwo plain).TakesRequests ∧ ((readyTwo plain).slot 2).state ≠ .unconfigured) ∧
    ((shown plain).TakesRequests ∧ (shown plain).out.source = some 2) ∧ (holding.TakesRequests ∧ holding.out.source = some 2) ∧
    ((changing (change (some 2) .fade)).TakesRequests ∧ (change (some 2) .fade).toSlot = some 2 ∧
      ({ change (some 2) .align with reselect := some { slot := none, tag := 3 } }).reselect = some { slot := none, tag := 3 }) :=
  ⟨⟨takes_of _ rfl rfl, by decide, by decide, rfl⟩, ⟨takes_of _ rfl rfl, by decide⟩, ⟨takes_of _ rfl rfl, rfl⟩,
    ⟨takes_of _ rfl rfl, rfl⟩, takes_of _ rfl rfl, rfl, rfl⟩

/-- SHOWING at gain 12; HOLDING with a pulse in flight; DARK with a READY target, accepted and not, and a WARM one at work. -/
theorem test_witness_SelectStartsChangeover :
    ((shown plain).TakesRequests ∧ (shown plain).OutputLawful ∧ ((shown plain).slot 2).state = .active ∧
      (shown plain).out.gain ≠ 63 ∧ (shown plain).out.mode = .showing) ∧
    (∃ s : State, s.TakesRequests ∧ s.OutputLawful ∧ s.out.mode = .holding ∧ s.out.hold.form = some .loss ∧
      s.coin.pulse ≠ none ∧ s.out.source = some 2 ∧ (s.slot 2).setup = some plain) ∧
    ((readyTwo plain).TakesRequests ∧ (readyTwo plain).OutputLawful ∧ (readyTwo plain).out.mode = .dark ∧
      (readyTwo plain).out.sync = .bridge ∧ (readyTwo plain).out.gain = 63 ∧ (readyTwo plain).coin.pulse = none ∧
      ((readyTwo plain).queue 2).out = none ∧ ((readyTwo plain).slot 2).state = .ready ∧
      ((readyTwo plain).slot 2).lastProbe = some lowBoard ∧ (readyTwo plain).settings.accepts lowFigures.cls = true ∧
      (readyTwo plain).settings.windowLow ≤ lowFigures.frameRate ∧
      lowFigures.frameRate ≤ (readyTwo plain).settings.windowHigh) ∧
    ¬ ({ OutSettings.reset with windowLow := 5920 }).windowLow ≤ lowFigures.frameRate ∧
    (((pausing (readyTwo plain)).queue 2).running ≠ none ∧ ((pausing (readyTwo plain)).queue 2).out = none) ∧
    ((pausing (conf 2 plain .warm true State.reset)).slot 2).state = .warm ∧
    (∃ s : State, (s.slot 2).state = .testing ∧ (s.slot 2).testReturn = some .ready ∧
      (s.slot 2).lastProbe = some lowBoard ∧ (s.queue 2).running ≠ none ∧ (s.queue 2).out = none) := by
  refine ⟨⟨takes_of _ rfl rfl, outputLawful_shown plain, by decide, by decide, rfl⟩,
    ⟨{ holding with coin := { CoinUnit.reset with pulse := some pulse } }, takes_of _ rfl rfl, ?_, rfl, rfl,
      by decide, rfl, by decide⟩,
    ⟨takes_of _ rfl rfl, ?_, rfl, rfl, rfl, rfl, by decide, by decide, by decide, by decide, by decide, by decide⟩, by decide,
    by decide, by decide,
    ⟨pausing ((readyTwo plain).modSlot 2 fun sl => { sl with state := .testing, testReturn := some .ready }), by decide⟩⟩
  · exact outputLawful_holding
  · refine ⟨rfl, rfl, ?_, ?_, ?_, ?_, ?_, ?_, ?_, ?_⟩ <;> intros <;>
      simp_all [readyTwo, conf, State.modSlot, Hold.none, State.reset, Output.reset]

/-- A new target in each stage, with and without a reselect pending, and an idle old target. -/
theorem test_witness_SelectRetargetsOrReselects :
    (∀ st : Stage, (changing (change (some 2) st)).TakesRequests ∧
      (changing (change (some 2) st)).out.mode = .changing ∧ (changing (change (some 2) st)).chg = some (change (some 2) st) ∧
      (changing (change (some 2) st)).out.source = none ∧ (change (some 2) st).toSlot ≠ none ∧
      (change (some 2) st).reselect = none) ∧
    (∃ c : Change, c.stage = .settle ∧ c.toSlot ≠ none ∧ ∃ r, c.reselect = some r ∧ r.slot ≠ none) ∧
    ((changing (change (some 2) .fade)).queue 2 = { ctrl := [], out := none, running := none, pauseEnd := none } ∧
      ((changing (change (some 2) .fade)).slot 2).shedPending = false) :=
  ⟨fun _ => ⟨takes_of _ rfl rfl, rfl, rfl, rfl, nofun, rfl⟩,
    ⟨{ change (some 2) .settle with reselect := some { slot := some 3, tag := 4 } }, rfl, by decide, _, rfl, by decide⟩,
    by decide, by decide⟩

/-- A retarget in PREPARE from slot 2, whose prepare entry runs, to slot 3, WARM with work running, or READY with a record;
the prepare entry's last step, and an entry without a step at its turn; a prepare outcome that the monitor accepts and one it
rejects. -/
theorem test_witness_SelectRetargetsOrReselects_prepare :
    let entry (steps : List WorkStep) : Entry := { kind := .prepare, steps := steps, done := 0, waiver := false, marked := false }
    (∃ s : State, s.TakesRequests ∧ s.chg = some (change (some 2) .prepare) ∧ s.out.mode = .changing ∧ s.out.source = none ∧
      (s.slot 2).shedPending = false ∧ (s.queue 2).out = some (entry [.probe]) ∧ (s.queue 2).running = some .output ∧
      (s.slot 3).state = .warm ∧ (s.queue 3).out = none ∧ (s.queue 3).running ≠ none) ∧
    (∃ s : State, s.TakesRequests ∧ s.chg = some (change (some 2) .reclass) ∧ s.out.mode = .changing ∧
      (s.slot 3).state = .ready ∧ (s.slot 3).lastProbe = some lowBoard ∧ lowBoard.derived = some lowFigures ∧
      s.settings.accepts lowFigures.cls = true ∧ s.settings.windowLow ≤ lowFigures.frameRate ∧
      lowFigures.frameRate ≤ s.settings.windowHigh ∧ (s.queue 3).out = none) ∧
    (∃ s : State, (s.queue 2).out = some (entry [.probe]) ∧ (s.queue 2).running = some .output ∧
      (entry [.probe]).steps.length ≤ (entry [.probe]).done + 1) ∧
    (∃ s : State, (s.queue 2).out = some (entry []) ∧ (s.queue 2).running = some .output ∧ (s.slot 2).state = .ready ∧
      (s.slot 2).lastProbe ≠ none) ∧
    ((changing (change (some 2) .prepare)).chg = some (change (some 2) .prepare) ∧
      (changing (change (some 2) .prepare)).out.source = none ∧ ((changing (change (some 2) .prepare)).queue 2).out = none ∧
      ((changing (change (some 2) .prepare)).slot 2).lastProbe = some lowBoard) ∧
    ¬ ({ OutSettings.reset with windowLow := 5920 }).windowLow ≤ lowFigures.frameRate := by
  refine ⟨⟨conf 3 plain .warm true
      (((changing (change (some 2) .prepare)).modQueue 2 fun q => { q with
          out := some { kind := .prepare, steps := [.probe], done := 0, waiver := false, marked := false }
          running := some .output }).modQueue 3 fun q => { q with
          ctrl := [{ kind := .controller 7, steps := [.pause 100], done := 0, waiver := false, marked := false }]
          running := some .controller, pauseEnd := some 5 }), takes_of _ rfl rfl, rfl, rfl, rfl, by decide⟩,
    ⟨(conf 3 plain .ready true (changing (change (some 2) .reclass))).modSlot 3 fun sl => { sl with lastProbe := some lowBoard },
      takes_of _ rfl rfl, rfl, rfl, by decide⟩,
    ⟨State.reset.modQueue 2 fun q => { q with
      out := some { kind := .prepare, steps := [.probe], done := 0, waiver := false, marked := false }
      running := some .output }, by decide⟩,
    ⟨(readyTwo plain).modQueue 2 fun q => { q with
      out := some { kind := .prepare, steps := [], done := 0, waiver := false, marked := false }
      running := some .output }, by decide⟩, ⟨rfl, rfl, by decide, by decide⟩, by decide⟩

/-- A target in PROBING in each stage after PREPARE, without a reselect, with one of NONE and with one of slot 3, which is OFF;
and a READY one. -/
theorem test_witness_SelectRetargetsOrReselects_targetLeft :
    ((changing (change (some 2) .align)).target = some 2 ∧ ((changing (change (some 2) .align)).slot 2).state = .ready) ∧
    (∀ st : Stage, ∃ s : State, s.chg = some (change (some 2) st) ∧ (s.slot 2).state = .probing ∧ (s.queue 2).out = none ∧
      (change (some 2) st).reselect = none) ∧
    ∃ (s : State) (c : Change), s.chg = some { c with reselect := some { slot := none, tag := 3 } } ∧ c.stage = .settle ∧
      c.toSlot = some 2 ∧ (s.slot 2).state = .probing ∧ (s.queue 2).out = none ∧ s.out.source = none ∧
      ({ c with reselect := some { slot := some 3, tag := 3 } }).reselect = some { slot := some 3, tag := 3 } ∧
      (s.slot 3).state ≠ .ready ∧ (s.queue 3).out = none :=
  ⟨⟨rfl, by decide⟩, fun st => ⟨conf 2 plain .probing true (changing (change (some 2) st)), rfl, by cases st <;> decide, by cases st <;> decide, rfl⟩,
    conf 2 plain .probing true
      (conf 3 plain .off false (changing { change (some 2) .settle with reselect := some { slot := none, tag := 3 } })),
    change (some 2) .settle, rfl, rfl, rfl, by decide, by decide, rfl, rfl, by decide, by decide⟩

/-- Each stage; a pending reselect; a target without an entry, with a prepare entry behind a running controller entry, and with
one that runs. -/
theorem test_witness_CancelByStage :
    (State.reset.TakesRequests ∧ State.reset.chg = none) ∧
    (∀ st : Stage, (changing (change (some 2) st)).TakesRequests ∧ (changing (change (some 2) st)).chg = some (change (some 2) st) ∧
      (change (some 2) st).reselect = none ∧ (changing (change (some 2) st)).out.source = none) ∧
    ({ change (some 2) .align with reselect := some { slot := none, tag := 3 } }).reselect = some { slot := none, tag := 3 } ∧
    ((changing (change (some 2) .reclass)).queue 2 = { ctrl := [], out := none, running := none, pauseEnd := none } ∧
      ((changing (change (some 2) .reclass)).slot 2).shedPending = false) ∧
    (∃ (s : State) (e : Entry), s.TakesRequests ∧ s.chg = some (change (some 2) .prepare) ∧ s.out.source = none ∧
      (s.slot 2).shedPending = false ∧ (s.queue 2).out = some e ∧ e.kind = .prepare ∧
      (s.queue 2).running = some .controller) ∧
    ∃ (s : State) (e : Entry), s.TakesRequests ∧ s.chg = some (change (some 2) .prepare) ∧ s.out.source = none ∧
      (s.slot 2).shedPending = false ∧ (s.queue 2).out = some e ∧ e.kind = .prepare ∧
      (s.queue 2).running = some .output :=
  ⟨⟨takes_of _ rfl rfl, rfl⟩, fun _ => ⟨takes_of _ rfl rfl, rfl, rfl, rfl⟩, rfl, ⟨by decide, by decide⟩,
    ⟨(pausing (changing (change (some 2) .prepare))).modQueue 2 fun q => { q with
        out := some { kind := .prepare, steps := [.powerOn, .probe], done := 0, waiver := false, marked := false } },
      _, takes_of _ rfl rfl, rfl, rfl, by decide, rfl, rfl, by decide⟩,
    (changing (change (some 2) .prepare)).modQueue 2 fun q => { q with
      running := some .output
      out := some { kind := .prepare, steps := [.powerOn, .probe], done := 0, waiver := false, marked := false } },
    _, takes_of _ rfl rfl, rfl, rfl, by decide, rfl, rfl, by decide⟩

/-- Each timer running and stopped, and a rejoin's. -/
theorem test_witness_ChangeoverTimersEnd :
    (State.reset.Between ∧ State.reset.chg = none ∧ State.reset.out.hold.rejoin = none) ∧
    ((changing (change none .bridge)).Between ∧ (changing (change none .bridge)).chg = some (change none .bridge) ∧
      (change none .bridge).cut.timer = some 12000000 ∧ (changing (change none .bridge)).out.source = none) ∧
    (∃ (s : State) (c : Change) (e : Entry), s.Between ∧ s.chg = some c ∧ c.prepareTimer = some 5 ∧ c.toSlot = some 2 ∧
      c.reselect = none ∧ s.out.source = none ∧ (s.queue 2).out = some e ∧ e.kind = .prepare ∧
      (s.queue 2).running = some .output) ∧
    ((changing (change (some 2) .align)).Between ∧ (change (some 2) .settle).cut.timer = some 12000000 ∧
      ((changing (change (some 2) .align)).slot 2).shedPending = false ∧
      ((changing (change (some 2) .align)).slot 2).state ≠ .testing ∧
      (changing (change (some 2) .align)).queue 2 = { ctrl := [], out := none, running := none, pauseEnd := none }) ∧
    ∃ s : State, s.Between ∧ s.chg = none ∧ s.out.hold.cut.timer = some 5 ∧ s.out.hold.rejoin = some .align := by
  refine ⟨⟨between_of _ rfl rfl, rfl, rfl⟩, ⟨between_of _ rfl rfl, rfl, rfl, rfl⟩,
    ⟨(changing { change (some 2) .prepare with prepareTimer := some 5 }).modQueue 2 fun q => { q with
        out := some { kind := .prepare, steps := [.probe], done := 0, waiver := false, marked := false }
        running := some .output }, _, _, between_of _ rfl rfl, rfl, rfl, rfl, rfl, rfl, rfl, rfl, rfl⟩,
    ⟨between_of _ rfl rfl, rfl, by decide, by decide, by decide⟩,
    { holding with out := { holding.out with
        hold := { Hold.none with rejoin := some .align, cut := { Cut.none with timer := some 5 } } } },
    between_of _ rfl rfl, rfl, rfl, rfl⟩

/-- The cut at 8 lines off and none at 9, of an interlaced board from the nearer count, with a line pulse in the frame pulse's
tick and without; the last settle frame and the one before it. -/
theorem test_witness_AlignCutsAndSettleCompletes :
    ((changing (change (some 2) .align)).chg = some (change (some 2) .align) ∧
      (change (some 2) .align).targetProbe = some lowBoard ∧ lowBoard.countA = some 264 ∧ lowBoard.countB = some 264 ∧
      lowBoard.derived = some lowFigures ∧ ((changing (change (some 2) .align)).slot 2).setup = some plain) ∧
    (linesAway 272 (nearerCount lowFigures.interlaced 264 264 272) ≤ 8 ∧
      ¬ linesAway 273 (nearerCount lowFigures.interlaced 264 264 273) ≤ 8) ∧
    (fieldBoard.countA = some 262 ∧ fieldBoard.countB = some 263 ∧ fieldBoard.derived = some fieldFigures ∧
      linesAway (272 - 1) (nearerCount fieldFigures.interlaced 262 263 (272 - 1)) ≤ 8 ∧
      ¬ linesAway 272 (nearerCount fieldFigures.interlaced 262 263 272) ≤ 8) ∧ plain.profile.settleFrames ≠ 0 ∧
    (0 + 1 < 2 ∧ 2 ≤ 1 + 1) ∧ ((changing (change (some 2) .settle)).slot 2).state = .ready ∧ plain.profile.coin = none ∧
    (change (some 2) .settle).reselect = none ∧ (change (some 2) .settle).fromSlot = none := by decide

/-- A READY outgoing slot with policy SHED and an empty queue, and the same with work. -/
theorem test_witness_AlignCutsAndSettleCompletes_shed :
    ∃ s : State, s.chg = some { change (some 2) .settle with fromSlot := some 3 } ∧ s.out.sync = .slot 2 ∧
      (∀ k, (some 3 : Option SlotNo) = some k → s.supply.permit ≠ some k) ∧ (3 : SlotNo) ≠ 2 ∧ (s.slot 3).power = true ∧
      (s.slot 3).setup = some setup ∧ setup.profile.policy = .shed ∧ (s.queue 3).ctrl = [] ∧ (s.queue 3).out = none ∧
      (s.slot 3).state = .ready ∧ ((pausing s).queue 2).ctrl ≠ [] := by
  refine ⟨conf 3 setup .ready true { changing { change (some 2) .settle with fromSlot := some 3 } with
    out := { Output.reset with mode := .changing, sync := .slot 2 } }, rfl, rfl, ?_, by decide⟩
  intro k _
  show (none : Option SlotNo) ≠ some k
  nofun

/-- A level the line has and another; the three chord states, all lines held, free, and neither. -/
theorem test_witness_PanelMovesChord :
    (State.reset.Between ∧ State.reset.controls.panel.getLsbD 3 = false ∧ State.reset.controls.chordEnd = none) ∧
    ((3 : LineNo) ∉ Controls.reset.chordLines ∧ (10 : LineNo) ∈ Controls.reset.chordLines) ∧
    (∀ m ∈ Controls.reset.chordLines, (setLine 0x200000 10 true).getLsbD m.val = true) ∧
    (¬ ∀ m ∈ Controls.reset.chordLines, (setLine 0 10 true).getLsbD m.val = true) ∧
    (∀ m ∈ Controls.reset.chordLines, (setLine 0x000400 10 false).getLsbD m.val = false) ∧
    (¬ ∀ m ∈ Controls.reset.chordLines, (setLine 0x200400 10 false).getLsbD m.val = false) ∧
    ({ Controls.reset with chord := .timing, chordEnd := some 5 }).chordEnd = some 5 :=
  ⟨⟨between_of _ rfl rfl, by decide, rfl⟩, by decide, by decide, by decide, by decide, by decide, rfl⟩

theorem test_witness_DriveLinesFollowMode :
    ((shown setup).driveMode 2 = .map ∧ (readyTwo setup).driveMode 2 = .park ∧ ((shown setup).slot 2).setup = some setup ∧
      ((shown setup).slot 2).power = true ∧ ((shown setup).slot 0).setup = none) ∧
    (setup.map[5] = .panel 5 ∧ (Vector.replicate 24 MapSource.released)[5] = .released) ∧
    ((shown setup).link.inReset = false ∧ ({ Link.reset with inReset := true }).inReset = true) ∧
    ∃ s : State, s.driveMode 2 = .test ∧ s.tester.run = some { slot := 2, pattern := 1, ends := 5 } :=
  ⟨by decide, by decide, ⟨rfl, rfl⟩, { readyTwo setup with tester :=
    { run := some { slot := 2, pattern := 1, ends := 5 }, wait := [], record := none } }, by decide, rfl⟩

/-- An empty bank, one that an added credit changes, and a full one that stays. -/
theorem test_witness_CreditAddsAndClears :
    (State.reset.TakesRequests ∧ State.reset.coin.bank = 0) ∧
    (∃ s : State, s.TakesRequests ∧ s.coin.bank ≠ 0 ∧ min 255 (s.coin.bank + 1) = s.coin.bank) ∧
    ∃ s : State, s.TakesRequests ∧ s.coin.bank ≠ 0 ∧ min 255 (s.coin.bank + 1) ≠ s.coin.bank :=
  ⟨⟨takes_of _ rfl rfl, rfl⟩,
    ⟨{ State.reset with coin := { CoinUnit.reset with bank := 255 } }, takes_of _ rfl rfl, by decide, by decide⟩,
    { State.reset with coin := { CoinUnit.reset with bank := 254 } }, takes_of _ rfl rfl, by decide, by decide⟩

/-- Exactly the units of one pulse banked, the sense high at LOW-ASSERT. -/
theorem test_witness_PayoutTestBeginsPulse :
    ∃ (s : State) (p : CoinProfile), s.out.mode = .showing ∧ s.out.source = some 2 ∧ (s.slot 2).setup = some setup ∧
      setup.profile.coin = some p ∧ s.controls.capture = false ∧ s.coin.pulse = none ∧ s.senseAsserted 2 p.drive = false ∧
      p.units ≤ s.coin.bank :=
  ⟨{ shown setup with coin := { CoinUnit.reset with bank := 2 } }, _, rfl, rfl, by decide, rfl, rfl, rfl, by decide, by decide⟩

/-- Each state of an input, and closures just below and at the minimum, and at and above the maximum. -/
theorem test_witness_CoinClosureJudged :
    (State.reset.Between ∧ (State.reset.coin.input .a).closed = false ∧ (State.reset.coin.input .a).state ≠ .timing) ∧
    (∃ s : State, s.Between ∧ (s.coin.input .a).closed = true ∧ (s.coin.input .a).state = .timing ∧
      (s.coin.input .b).closed = true ∧ (s.coin.input .b).state = .jam) ∧
    959999 - 0 < 20 * 48000 ∧ 20 * 48000 ≤ 960000 - 0 ∧ 9600000 - 0 ≤ 200 * 48000 ∧ 200 * 48000 < 9600001 - 0 :=
  ⟨⟨between_of _ rfl rfl, rfl, by decide⟩,
    ⟨{ State.reset with coin := { CoinUnit.reset with
        inA := { state := .timing, since := 0, closed := true }, inB := { state := .jam, since := 0, closed := true } } },
      between_of _ rfl rfl, rfl, rfl, rfl, rfl⟩, by decide, by decide, by decide, by decide⟩

/-- A pulse in each phase, with no FADE and with one at mute; a meter in each phase, with one coin pending and with two. -/
theorem test_witness_PayoutPulseAndMetersRun :
    (State.reset.Between ∧ State.reset.coin.pulse = none ∧ (State.reset.coin.meter .one).phase = .idle ∧
      State.reset.chg = none) ∧
    (∃ s : State, s.Between ∧ (∃ p, s.coin.pulse = some p ∧ p.on = false) ∧ s.chg = some (change (some 2) .fade) ∧
      s.out.mode = .changing ∧ s.out.gain = 63 ∧ s.out.sync ≠ .bridge ∧ (s.coin.meter .one).phase = .on ∧
      (s.coin.meter .two).phase = .off ∧ (s.coin.meter .two).pending = 2) ∧
    ({ slot := 2, drive := .c1, units := 1, on := true, ends := 5, offTime := 60 } : Pulse).on = true ∧ 1 ≤ 1 ∧ ¬ 2 ≤ 1 :=
  ⟨⟨between_of _ rfl rfl, rfl, rfl, rfl⟩,
    ⟨{ changing (change (some 2) .fade) with
        out := { Output.reset with mode := .changing, sync := .slot 3 }
        coin := { CoinUnit.reset with
          pulse := some { slot := 3, drive := .c1, units := 1, on := false, ends := 5, offTime := 60 }
          meter1 := { pending := 1, phase := .on, ends := 5, offTime := 60 }
          meter2 := { pending := 2, phase := .off, ends := 5, offTime := 60 } } },
      between_of _ rfl rfl, ⟨_, rfl, rfl⟩, rfl, rfl, rfl, by decide, rfl, rfl, rfl⟩, rfl, by decide, by decide⟩

theorem test_witness_PatternsFollowGenerator :
    ((1 : Lines) ≠ 0 ∧ (0x7FFFFF : Lines).toNat < 2 ^ 23 ∧ ¬ (0x800000 : Lines).toNat < 2 ^ 23) ∧
    ((0x0000000008 : BitVec 40).extractLsb' 16 24 = 0 ∧
      storeStep { kind := 4, params := 0x0000000008 } = some (.harness 1 8)) ∧
    ∃ s : State, (s.queue 2).step = some (.harness 1 8) ∧ (s.slot 2).setup = some setup :=
  ⟨by decide, by decide, (readyTwo setup).modQueue 2 fun q => { q with
    ctrl := [{ kind := .controller 7, steps := [.harness 1 8], done := 0, waiver := false, marked := false }]
    running := some .controller }, by decide⟩

/-- A step that asks a FREE tester and one that asks a RUNNING tester; a hand-over to a WARM slot, to a RESTING one, and with an
empty list. -/
theorem test_witness_HarnessPatternReadBack_handed :
    let asks (st : SlotState) : State := (conf 2 setup st true State.reset).modQueue 2 fun q => { q with
      ctrl := [{ kind := .controller 7, steps := [.harness 1 8], done := 0, waiver := false, marked := false }]
      running := some .controller }
    let waits (st : SlotState) : State := { asks st with tester := { run := none, wait := [2], record := none } }
    (((asks .warm).queue 2).step = some (.harness 1 8) ∧ ((asks .warm).slot 2).state = .warm ∧ (asks .warm).tester.run = none ∧
      (asks .warm).tester.wait = []) ∧
    (some ({ slot := 3, pattern := 1, ends := 5 } : TestRun) ≠ none) ∧
    ((waits .warm).tester.wait = 2 :: [] ∧ (waits .warm).target = none ∧ ((waits .warm).queue 2).step = some (.harness 1 8) ∧
      ((waits .warm).slot 2).state ∉ [SlotState.active, .starting, .waiting, .resting, .probing]) ∧
    ((waits .resting).tester.run = none ∧
      ((waits .resting).slot 2).state ∈ [SlotState.active, .starting, .waiting, .resting, .probing]) := by decide

/-- A WARM slot and an ACTIVE one, with both engines FREE, with engine 0 busy, and with both busy. -/
theorem test_witness_StepsCheckedAtStart :
    ((conf 2 plain .warm true State.reset).slot 2).state ≠ .probing ∧ ((shown plain).slot 2).state = .active ∧
    (State.reset.engine 0 = none ∧ State.reset.probeList = []) ∧
    ((State.reset.setEngine 0 (some (measuring .countA .notStarted))).engine 0 ≠ none ∧
      (State.reset.setEngine 0 (some (measuring .countA .notStarted))).engine 1 = none) ∧
    ((State.reset.setEngine 0 (some (measuring .countA .notStarted))).setEngine 1
      (some (measuring .countA .notStarted))).engine 1 ≠ none := by decide

/-- A test of two patterns at its first and at its last. -/
theorem test_witness_HarnessPatternReadBack :
    (State.reset.Between ∧ State.reset.tester.run = none) ∧
    ∃ (s : State) (before : TestRecord), s.Between ∧ s.tester.run = some { slot := 2, pattern := 1, ends := 5 } ∧
      (s.slot 2).setup = some setup ∧ s.tester.record = some before ∧ before.done + 1 < before.count ∧
      before.count ≤ ({ before with done := 1 }).done + 1 ∧ (s.slot 2).faultAtEnd = false ∧
      (s.slot 2).testReturn = some .off :=
  ⟨⟨between_of _ rfl rfl, rfl⟩,
    { (conf 2 setup .testing false State.reset).modSlot 2 (fun sl => { sl with testReturn := some .off }) with
      tester := { run := some { slot := 2, pattern := 1, ends := 5 }, wait := []
                  record := some { slot := 2, seed := 1, count := 2, done := 0, signature := 0
                                   cannotAssert := Vector.replicate 24 0, heldAsserted := Vector.replicate 24 0
                                   verdict := none } } },
    _, between_of _ rfl rfl, rfl, by decide, rfl, by decide, by decide, by decide, by decide⟩

end Sys2Proof.Tests
end

/-! The arithmetic of a completed probe (R56 to R61): rounding half up, the scan classes, the verdict. -/

namespace Sys2Proof.Machine

/-! ## Rounding half up -/

/-- Rounding half up as a Galois connection: the quotient reaches `n` exactly from `n` less a half on. -/
theorem le_rounded_iff {d : Nat} (hd : 0 < d) (n x : Nat) : n ≤ rounded x d ↔ (2 * n - 1) * d ≤ 2 * x := by
  rw [rounded, Nat.le_div_iff_mul_le (by omega), Nat.sub_mul, Nat.mul_left_comm, Nat.mul_assoc]
  omega

/-- The quotient's two half-unit bounds determine it, a half going up (00_scope.md, Rounding). -/
theorem rounded_bounds {d : Nat} (hd : 0 < d) (x : Nat) :
    (2 * rounded x d - 1) * d ≤ 2 * x ∧ 2 * x < (2 * rounded x d + 1) * d := by
  have next_not_reached := (le_rounded_iff hd (rounded x d + 1) x).not.mp (Nat.not_succ_le_self _)
  exact ⟨(le_rounded_iff hd _ x).mp le_rfl, not_le.mp next_not_reached⟩

/-- A larger divisor gives no larger rounded quotient. -/
theorem rounded_antitone {d e : Nat} (hd : 0 < d) (hde : d ≤ e) (x : Nat) : rounded x e ≤ rounded x d := by
  have reached := (le_rounded_iff (hd.trans_le hde) _ x).mp le_rfl
  exact (le_rounded_iff hd _ x).mpr ((Nat.mul_le_mul_left _ hde).trans reached)

/-- A longer line period gives no higher line rate (R56). -/
theorem lineRate_antitone {t u : Nat} (ht : 0 < t) (htu : t ≤ u) : lineRate u ≤ lineRate t :=
  min_le_min_left _ (rounded_antitone ht htu _)

/-! ## Scan classes (R60)

No rate is in two bands, so a class is given exactly in its own band, whichever `classOf` asks first. -/

theorem classOf_eq_low_iff (rate : Nat) : classOf rate = .low ↔ 14500 ≤ rate ∧ rate ≤ 16999 := by
  unfold classOf
  split_ifs <;> simp only [true_iff, false_iff] <;> omega

theorem classOf_eq_medium_iff (rate : Nat) : classOf rate = .medium ↔ 23000 ≤ rate ∧ rate ≤ 25999 := by
  unfold classOf
  split_ifs <;> simp only [true_iff, false_iff] <;> omega

theorem classOf_eq_high_iff (rate : Nat) : classOf rate = .high ↔ 29500 ≤ rate ∧ rate ≤ 32999 := by
  unfold classOf
  split_ifs <;> simp only [true_iff, false_iff] <;> omega

theorem lineRate_highEdge : lineRate 372370 = 32999 := by decide

theorem lineRate_aboveHighEdge : lineRate 372369 = 33000 := by decide

/-! ## The verdict (R59, R61) -/

theorem oneApart_iff (a b : Nat) : oneApart a b = true ↔ a = b + 1 ∨ b = a + 1 := decide_eq_true_iff

/-- R61's last condition: counts that are equal or one apart differ by at most 1. -/
theorem eq_or_oneApart_iff (a b : Nat) : a = b ∨ oneApart a b = true ↔ a ≤ b + 1 ∧ b ≤ a + 1 := by
  rw [oneApart_iff]
  omega

/-- Counts that fit the line counters are GOOD exactly by the four conditions of R61. -/
theorem goodVerdict_eq_good_iff (d : Derived) {a b : Nat} (ha : a ≤ 1023) (hb : b ≤ 1023) :
    goodVerdict d a b = .good ↔
      d.cls ≠ .out ∧ 200 ≤ a ∧ 200 ≤ b ∧ 4000 ≤ d.frameRate ∧ d.frameRate ≤ 7500 ∧ a ≤ b + 1 ∧ b ≤ a + 1 := by
  simp [goodVerdict, eq_or_oneApart_iff, ha, hb, and_assoc]

theorem goodVerdict_eq_outOfRange {d : Derived} {a b : Nat} (h : goodVerdict d a b ≠ .good) :
    goodVerdict d a b = .outOfRange := by
  unfold goodVerdict at h ⊢
  split_ifs at h ⊢
  · exact absurd rfl h
  · rfl

/-! ## The statements -/

/-- Settles O37, from the bounds of rounding half up at each of the three quotients and the verdict's conditions. -/
theorem probeFiguresDerived : Obligations.ProbeFiguresDerived := by
  intro t256 a b ht _ ha ha' _ hb'
  have frames : 0 < t256 * (a + b) := Nat.mul_pos ht (by omega)
  obtain ⟨line_ge, line_lt⟩ := rounded_bounds ht 12288000000
  obtain ⟨ticks_ge, ticks_lt⟩ := rounded_bounds (d := 256) (by decide) t256
  obtain ⟨frame_ge, frame_lt⟩ := rounded_bounds frames 2457600000000
  exact ⟨derive t256 a b, rfl, ⟨_, line_ge, line_lt, rfl⟩, ⟨_, ticks_ge, ticks_lt, rfl⟩, rfl,
    ⟨_, frame_ge, frame_lt, rfl⟩, oneApart_iff a b, rfl, goodVerdict_eq_good_iff _ ha' hb', goodVerdict_eq_outOfRange⟩

/-- Settles O36: each band by its own condition, and below the HIGH band's T256 edge the line rate, which falls with
T256, is at least the 33,000 of that edge. -/
theorem classTakenFromLineRate : Obligations.ClassTakenFromLineRate := by
  refine ⟨fun rate => ⟨(classOf_eq_low_iff rate).symm, (classOf_eq_medium_iff rate).symm,
    (classOf_eq_high_iff rate).symm⟩, lineRate_highEdge, ?_, lineRate_aboveHighEdge, ?_⟩
  · rw [lineRate_highEdge, classOf_eq_high_iff]
    decide
  · intro t256 pos below high
    have rate_ge := lineRate_antitone pos (Nat.le_of_lt_succ below)
    rw [lineRate_aboveHighEdge] at rate_ge
    have rate_le := ((classOf_eq_high_iff _).mp high).2
    omega

end Sys2Proof.Machine

/-! The generator of the Harness Tester's patterns (R166): its arithmetic, the seed a HARNESS step stores, and the two
places where a test's pattern is set. -/

namespace Sys2Proof.Machine

/-! ## The generator -/

theorem lines_msb_iff (p : Lines) : p.msb = true ↔ 2 ^ 23 ≤ p.toNat := by
  rw [BitVec.msb_eq_true_iff_two_mul_ge]
  omega

theorem nextPattern_of_low {p : Lines} (low : p.toNat < 2 ^ 23) : (nextPattern p).toNat = 2 * p.toNat := by
  have keeps : ¬ p.msb = true := by rw [lines_msb_iff]; omega
  rw [nextPattern, if_neg keeps, BitVec.toNat_shiftLeft, Nat.shiftLeft_eq]
  omega

theorem nextPattern_of_high {p : Lines} (high : 2 ^ 23 ≤ p.toNat) :
    (nextPattern p).toNat = (2 * p.toNat - 2 ^ 24) ^^^ 0xC20001 := by
  have doubled : (p <<< 1).toNat = 2 * p.toNat - 2 ^ 24 := by
    rw [BitVec.toNat_shiftLeft, Nat.shiftLeft_eq]
    omega
  rw [nextPattern, if_pos ((lines_msb_iff p).mpr high), BitVec.toNat_xor, doubled]
  rfl

/-- Doubling clears bit 0 and C20001h is odd, so bit 0 tells whether a 1 was doubled out. -/
theorem nextPattern_testBit_zero (p : Lines) : (nextPattern p).getLsbD 0 = p.msb := by
  unfold nextPattern
  split
  next out => simp [out]
  next keeps => simp [keeps]

/-- A pattern that doubles a 1 out is followed by an odd one, any other by its double. -/
theorem nextPattern_ne_zero {p : Lines} (hp : p ≠ 0) : nextPattern p ≠ 0 := by
  intro zero
  have keeps : p.msb = false := by rw [← nextPattern_testBit_zero, zero]; rfl
  have low : p.toNat < 2 ^ 23 := by
    rw [← not_le, ← lines_msb_iff, keeps]
    exact Bool.false_ne_true
  have double := nextPattern_of_low low
  rw [zero] at double
  bv_omega

/-! ## The stored seed -/

/-- The seed SLOT-WORK stores for a seed as sent (R26, R166). -/
def storedSeed (sent : Lines) : Lines := if sent = 0 then 1 else sent

theorem storedSeed_ne_zero (sent : Lines) : storedSeed sent ≠ 0 := by
  unfold storedSeed
  split
  next => decide
  next nonzero => exact nonzero

theorem storeStep_of_harness {r : RawStep} (h : r.kind = 4) :
    storeStep r = some (.harness (storedSeed (r.params.extractLsb' 16 24))
      (clamp 1 4096 (r.params.extractLsb' 0 16).toNat)) := by
  simp [storeStep, storedSeed, h]

/-- Only a place of kind 4 stores a HARNESS step. -/
theorem kind_of_storeStep_eq_harness {r : RawStep} {seed : Lines} {n : Nat}
    (h : storeStep r = some (.harness seed n)) : r.kind = 4 := by
  unfold storeStep at h
  split_ifs at h <;> cases h
  assumption

theorem storeStep_seed_ne_zero {r : RawStep} {seed : Lines} {n : Nat}
    (h : storeStep r = some (.harness seed n)) : seed ≠ 0 := by
  rw [storeStep_of_harness (kind_of_storeStep_eq_harness h)] at h
  cases h
  exact storedSeed_ne_zero _

/-! ## The patterns of a test -/

@[simp] theorem State.notice_tester (s : State) (k : NoticeKey) (body : List Byte) :
    (s.notice k body).tester = s.tester := by
  unfold State.notice
  split <;> simp

@[simp] theorem State.setState_tester (s : State) (i : SlotNo) (st : SlotState) :
    (s.setState i st).tester = s.tester := by
  unfold State.setState
  split <;> simp [State.slotNotice]

theorem State.after_two (s : State) : s.after 2 = s.now + 96000 := rfl

theorem State.beginTest_run {s : State} {i : SlotNo} {seed : Lines} {count : Nat}
    (h : (s.queue i).step = some (.harness seed count)) :
    (s.beginTest i).tester.run = some { slot := i, pattern := seed, ends := s.now + 96000 } := by
  have step : s.harnessStep i = some (seed, count) := by rw [State.harnessStep, h]
  simp [State.beginTest, step, State.after_two]

/-- With patterns left, the next pattern depends on the present one alone: neither the slot's polarity nor the senses
reach it. -/
theorem State.patternEnds_run {s : State} {r : TestRun} {senses : Lines} {su : Setup} {before : TestRecord}
    (configured : (s.slot r.slot).setup = some su) (record : s.tester.record = some before)
    (left : before.done + 1 < before.count) :
    (s.patternEnds r senses).tester.run =
      some { slot := r.slot, pattern := nextPattern r.pattern, ends := s.now + 96000 } := by
  have profile : s.profile r.slot = some su.profile := by rw [State.profile, configured]; rfl
  simp [State.patternEnds, TestRecord.read, profile, record, left, State.after_two]

/-! ## The statement -/

/-- Settles O59, from the generator's arithmetic on either side of the bit doubled out, the stored seed, and the run left
by the start of a test and by the end of a pattern. -/
theorem patternsFollowGenerator : Obligations.PatternsFollowGenerator := by
  refine ⟨fun p => ?_, fun _ => nextPattern_ne_zero, fun r harness zero => ?_, fun _ _ _ => storeStep_seed_ne_zero,
    fun _ _ _ _ => State.beginTest_run, fun _ _ _ _ _ => State.patternEnds_run⟩
  · split
    next low => exact nextPattern_of_low low
    next high => exact nextPattern_of_high (not_lt.mp high)
  · rw [storeStep_of_harness harness, zero]
    exact ⟨_, rfl⟩

end Sys2Proof.Machine

/-! What every operation of the part keeps: the laws that the steps keep one by one, the waiting commands, and a clock
that never runs back. -/

namespace Sys2Proof.Machine

/-! ## The parts of the laws that single records carry -/

/-- A configured slot's profile is in range (R2). -/
def Slot.ProfileInRange (sl : Slot) : Prop := ∀ su, sl.setup = some su → su.profile.InRange

/-- A slot's last probe is clamped (R57). -/
def Slot.ProbeClamped (sl : Slot) : Prop := ∀ p, sl.lastProbe = some p → p.Clamped

/-- The bridge's timings and the class output of an output record (R68, R71). -/
def Output.BridgeInRange (o : Output) : Prop := o.timing.InRange ∧ o.current.InRange ∧ o.classOut ≠ .out

/-- The audio levels of an output record (R74, R75). -/
def Output.LevelsInRange (o : Output) : Prop :=
  (∀ n, o.stagedLevel = some n → n ≤ 62) ∧ o.gain ≤ 63 ∧ o.target ≤ 63

/-- The chord's settings (R130). -/
def Controls.InRange (c : Controls) : Prop :=
  (250 ≤ c.holdTime ∧ c.holdTime ≤ 5000) ∧
  (1 ≤ c.chordLines.length ∧ c.chordLines.length ≤ 4 ∧ c.chordLines.Nodup)

/-- A task that carries no probe record, or a clamped one. -/
def Task.Carries (x : Task) : Prop := ∀ p, x.probe = some p → p.Clamped

theorem Task.carries_of_bare {ts : List Task} (h : ts.filterMap Task.probe = []) : ∀ x ∈ ts, x.Carries := by
  intro x hx p e
  have bare := List.filterMap_eq_nil_iff.mp h x hx
  simp [bare] at e

theorem State.BridgeLawful.bridge {s : State} (h : s.BridgeLawful) : s.out.BridgeInRange := ⟨h.1, h.2.1, h.2.2.1⟩

theorem State.BridgeLawful.slot {s : State} (h : s.BridgeLawful) (i : SlotNo) : (s.slot i).ProbeClamped := h.2.2.2.1 i

theorem State.SettingsInRange.slot {s : State} (h : s.SettingsInRange) (i : SlotNo) : (s.slot i).ProfileInRange := h.1 i

theorem State.SettingsInRange.levels {s : State} (h : s.SettingsInRange) : s.out.LevelsInRange := h.2.2.2.2.2.2

theorem State.SettingsInRange.chord {s : State} (h : s.SettingsInRange) : s.controls.InRange :=
  ⟨h.2.2.2.2.1, h.2.2.2.2.2.1⟩

theorem State.bridgeLawful_iff (s : State) :
    s.BridgeLawful ↔ s.out.BridgeInRange ∧ (∀ i, (s.slot i).ProbeClamped) ∧ ∀ x ∈ s.todo, x.Carries := by
  simp only [State.BridgeLawful, Output.BridgeInRange, Slot.ProbeClamped, Task.Carries, and_assoc]

theorem State.settingsInRange_iff (s : State) :
    s.SettingsInRange ↔ (∀ i, (s.slot i).ProfileInRange) ∧ s.settings.InRange ∧ s.coin.settings.InRange ∧
      (1 ≤ s.supply.level ∧ s.supply.level ≤ 15) ∧ s.controls.InRange ∧ s.out.LevelsInRange := by
  simp only [State.SettingsInRange, Controls.InRange, Output.LevelsInRange, Slot.ProfileInRange, and_assoc]

/-- A property of every slot's record is kept by a change of one record that keeps it. -/
theorem State.modSlot_forall {P : Slot → Prop} {s : State} {i : SlotNo} {f : Slot → Slot}
    (hf : P (s.slot i) → P (f (s.slot i))) (h : ∀ j, P (s.slot j)) (j : SlotNo) : P ((s.modSlot i f).slot j) := by
  by_cases e : i = j
  · subst e
    rw [State.modSlot_slot_self]
    exact hf (h i)
  · rw [State.modSlot_slot_of_ne s e]
    exact h j

/-! ## The relation -/

/-- What holds between a state and one that operations of the part have made of it: the same commands wait, the clock has
not run back, each of the laws that a step keeps, if it held, still holds, and no byte has joined or left the receive
buffer. -/
structure Keeps (s t : State) : Prop where
  pending : t.pending = s.pending
  now : s.now ≤ t.now
  balance : s.coin.Balanced → t.coin.Balanced
  link : s.link.Bounded → t.link.Bounded
  queues : s.QueuesBounded → t.QueuesBounded
  bridge : s.BridgeLawful → t.BridgeLawful
  settings : s.SettingsInRange → t.SettingsInRange
  rx : t.link.rx = s.link.rx

namespace Keeps

variable {s t : State}

protected theorem refl (s : State) : Keeps s s := ⟨rfl, Nat.le_refl _, id, id, id, id, id, rfl⟩

protected theorem trans {u : State} (h : Keeps s t) (h' : Keeps t u) : Keeps s u :=
  ⟨h'.pending.trans h.pending, h.now.trans h'.now, h'.balance ∘ h.balance, h'.link ∘ h.link, h'.queues ∘ h.queues,
    h'.bridge ∘ h.bridge, h'.settings ∘ h.settings, h'.rx.trans h.rx⟩

/-! ## Updates of single fields

Each is stated for an operation that follows others, so that the proof of an operation reads as its definition does. -/

/-- No law speaks of the taps, the engines, the probe wait list, the changeover record, the class settle deadline, the
lockout senses, the sampler or the tester. -/
theorem others (h : Keeps s t) {taps : Vector Tap 8} {engines : Vector (Option Measure) 2}
    {probeList : List ProbeRequest} {chg : Option Change} {classDeadline : Nat} {senses : Vector Senses 8}
    {sampler : Sampler} {tester : Tester} :
    Keeps s { t with taps := taps, engines := engines, probeList := probeList, chg := chg,
                     classDeadline := classDeadline, senses := senses, sampler := sampler, tester := tester } :=
  ⟨h.pending, h.now, h.balance, h.link, h.queues, h.bridge, h.settings, h.rx⟩

theorem advance (h : Keeps s t) (dt : Nat) : Keeps s (t.advance dt) :=
  ⟨h.pending, h.now.trans (Nat.le_add_right _ _), h.balance, h.link, h.queues, h.bridge, h.settings, h.rx⟩

theorem reach (h : Keeps s t) (tick : Nat) : Keeps s (t.reach tick) :=
  ⟨h.pending, h.now.trans (Nat.le_max_left _ _), h.balance, h.link, h.queues, h.bridge, h.settings, h.rx⟩

/-- A change of a slot's record that keeps its profile in range and its last probe clamped. -/
theorem slotUpdate (h : Keeps s t) {i : SlotNo} {f : Slot → Slot}
    (profile : s.SettingsInRange → (f (t.slot i)).ProfileInRange)
    (probe : s.BridgeLawful → (f (t.slot i)).ProbeClamped) : Keeps s (t.modSlot i f) where
  pending := h.pending
  now := h.now
  balance := h.balance
  link := h.link
  rx := h.rx
  queues := h.queues
  bridge := fun hs => by
    obtain ⟨bridge, slots, todo⟩ := t.bridgeLawful_iff.mp (h.bridge hs)
    exact (State.bridgeLawful_iff _).mpr ⟨bridge, State.modSlot_forall (fun _ => probe hs) slots, todo⟩
  settings := fun hs => by
    obtain ⟨slots, rest⟩ := t.settingsInRange_iff.mp (h.settings hs)
    exact (State.settingsInRange_iff _).mpr ⟨State.modSlot_forall (fun _ => profile hs) slots, rest⟩

/-- A change of a slot's record that leaves its setup and its last probe alone. -/
theorem modSlot (h : Keeps s t) {i : SlotNo} {f : Slot → Slot}
    (same : ((f (t.slot i)).setup, (f (t.slot i)).lastProbe) = ((t.slot i).setup, (t.slot i).lastProbe)) :
    Keeps s (t.modSlot i f) := by
  obtain ⟨setup, probe⟩ := Prod.mk.inj same
  exact h.slotUpdate (fun hs su e => (h.settings hs).slot i su (setup ▸ e))
    fun hs p e => (h.bridge hs).slot i p (probe ▸ e)

/-- A change of a slot's record that leaves its setup alone and clears its last probe. -/
theorem clearProbe (h : Keeps s t) {i : SlotNo} {f : Slot → Slot}
    (cleared : ((f (t.slot i)).setup, (f (t.slot i)).lastProbe) = ((t.slot i).setup, none)) :
    Keeps s (t.modSlot i f) := by
  obtain ⟨setup, probe⟩ := Prod.mk.inj cleared
  exact h.slotUpdate (fun hs su e => (h.settings hs).slot i su (setup ▸ e)) fun _ _ e => by simp [probe] at e

theorem modQueue (h : Keeps s t) {i : SlotNo} {f : Queue → Queue}
    (short : (t.queue i).ctrl.length ≤ 4 → (f (t.queue i)).ctrl.length ≤ 4) :
    Keeps s (t.modQueue i f) where
  pending := h.pending
  now := h.now
  balance := h.balance
  link := h.link
  rx := h.rx
  queues := fun hs j => by
    have ht := h.queues hs
    by_cases e : i = j
    · subst e
      rw [State.modQueue_queue_self]
      exact short (ht i)
    · rw [State.modQueue_queue_of_ne t e]
      exact ht j
  bridge := h.bridge
  settings := h.settings

/-- A change of the output record that keeps its timings, its class output and its levels in range. -/
theorem outUpdate (h : Keeps s t) {f : Output → Output} (bridge : s.BridgeLawful → (f t.out).BridgeInRange)
    (levels : s.SettingsInRange → (f t.out).LevelsInRange) : Keeps s (t.modOut f) where
  pending := h.pending
  now := h.now
  balance := h.balance
  link := h.link
  rx := h.rx
  queues := h.queues
  bridge := fun hs => (State.bridgeLawful_iff _).mpr ⟨bridge hs, (t.bridgeLawful_iff.mp (h.bridge hs)).2⟩
  settings := fun hs => by
    obtain ⟨slots, out, coin, supply, controls, -⟩ := t.settingsInRange_iff.mp (h.settings hs)
    exact (State.settingsInRange_iff _).mpr ⟨slots, out, coin, supply, controls, levels hs⟩

/-- A change of the audio levels that keeps them in range. -/
theorem modLevels (h : Keeps s t) {f : Output → Output} (levels : t.out.LevelsInRange → (f t.out).LevelsInRange)
    (same : ((f t.out).timing, (f t.out).current, (f t.out).classOut) =
      (t.out.timing, t.out.current, t.out.classOut)) : Keeps s (t.modOut f) := by
  simp only [Prod.mk.injEq] at same
  obtain ⟨timing, current, cls⟩ := same
  refine h.outUpdate (fun hs => ?_) fun hs => levels (h.settings hs).levels
  simpa only [Output.BridgeInRange, timing, current, cls] using (h.bridge hs).bridge

/-- A change of the bridge's timings or the class output that keeps them in range. -/
theorem modBridge (h : Keeps s t) {f : Output → Output} (bridge : t.out.BridgeInRange → (f t.out).BridgeInRange)
    (same : ((f t.out).stagedLevel, (f t.out).gain, (f t.out).target) =
      (t.out.stagedLevel, t.out.gain, t.out.target)) : Keeps s (t.modOut f) := by
  simp only [Prod.mk.injEq] at same
  obtain ⟨staged, gain, target⟩ := same
  refine h.outUpdate (fun hs => bridge (h.bridge hs).bridge) fun hs => ?_
  simpa only [Output.LevelsInRange, staged, gain, target] using (h.settings hs).levels

/-- A change of the output record that leaves its timings, its class output and its levels alone. -/
theorem modOut (h : Keeps s t) {f : Output → Output}
    (same : ((f t.out).timing, (f t.out).current, (f t.out).classOut, (f t.out).stagedLevel, (f t.out).gain,
      (f t.out).target) = (t.out.timing, t.out.current, t.out.classOut, t.out.stagedLevel, t.out.gain, t.out.target)) :
    Keeps s (t.modOut f) := by
  simp only [Prod.mk.injEq] at same
  obtain ⟨timing, current, cls, staged, gain, target⟩ := same
  refine h.modLevels (fun levels => ?_) (by rw [timing, current, cls])
  simpa only [Output.LevelsInRange, staged, gain, target] using levels

/-- A change of the Power Supervisor's record that leaves the dip threshold alone. -/
theorem modSupply (h : Keeps s t) {f : Supply → Supply}
    (level : (f t.supply).level = t.supply.level) : Keeps s (t.modSupply f) where
  pending := h.pending
  now := h.now
  balance := h.balance
  link := h.link
  rx := h.rx
  queues := h.queues
  bridge := h.bridge
  settings := fun hs => by
    obtain ⟨slots, out, coin, supply, controls, levels⟩ := t.settingsInRange_iff.mp (h.settings hs)
    exact (State.settingsInRange_iff _).mpr ⟨slots, out, coin, by simpa [level] using supply, controls, levels⟩

theorem modControls (h : Keeps s t) {f : Controls → Controls}
    (chord : t.controls.InRange → (f t.controls).InRange) : Keeps s (t.modControls f) where
  pending := h.pending
  now := h.now
  balance := h.balance
  link := h.link
  rx := h.rx
  queues := h.queues
  bridge := h.bridge
  settings := fun hs => by
    obtain ⟨slots, out, coin, supply, controls, levels⟩ := t.settingsInRange_iff.mp (h.settings hs)
    exact (State.settingsInRange_iff _).mpr ⟨slots, out, coin, supply, chord controls, levels⟩

theorem modCoin (h : Keeps s t) {f : CoinUnit → CoinUnit}
    (balance : t.coin.Balanced → (f t.coin).Balanced)
    (settings : (f t.coin).settings = t.coin.settings) : Keeps s (t.modCoin f) where
  pending := h.pending
  now := h.now
  balance := balance ∘ h.balance
  link := h.link
  rx := h.rx
  queues := h.queues
  bridge := h.bridge
  settings := fun hs => by
    obtain ⟨slots, out, coin, supply, controls, levels⟩ := t.settingsInRange_iff.mp (h.settings hs)
    exact (State.settingsInRange_iff _).mpr ⟨slots, out, by simpa [settings] using coin, supply, controls, levels⟩

/-- A change of the link's records that keeps its bounds and its receive buffer. -/
theorem linkUpdate (h : Keeps s t) {f : Link → Link} (link : s.link.Bounded → (f t.link).Bounded)
    (rx : (f t.link).rx = t.link.rx) : Keeps s (t.modLink f) :=
  ⟨h.pending, h.now, h.balance, link, h.queues, h.bridge, h.settings, rx.trans h.rx⟩

theorem modLink (h : Keeps s t) {f : Link → Link} (link : t.link.Bounded → (f t.link).Bounded)
    (rx : (f t.link).rx = t.link.rx) : Keeps s (t.modLink f) :=
  h.linkUpdate (link ∘ h.link) rx

/-- The tasks that wait carry no probe record or a clamped one. -/
theorem todo (h : Keeps s t) {ts : List Task} (carries : s.BridgeLawful → ∀ x ∈ ts, x.Carries) :
    Keeps s { t with todo := ts } where
  pending := h.pending
  now := h.now
  balance := h.balance
  link := h.link
  rx := h.rx
  queues := h.queues
  bridge := fun hs => by
    obtain ⟨bridge, slots, -⟩ := t.bridgeLawful_iff.mp (h.bridge hs)
    exact (State.bridgeLawful_iff _).mpr ⟨bridge, slots, carries hs⟩
  settings := h.settings

/-- Tasks of which those with a probe record carry a clamped one. -/
theorem pushCarrying (h : Keeps s t) {ts : List Task} (carries : s.BridgeLawful → ∀ x ∈ ts, x.Carries) :
    Keeps s (t.push ts) :=
  h.todo fun hs x hx =>
    (List.mem_append.mp hx).elim (carries hs x) ((t.bridgeLawful_iff.mp (h.bridge hs)).2.2 x)

/-- Tasks without a probe record. -/
theorem push (h : Keeps s t) {ts : List Task} (bare : ts.filterMap Task.probe = []) : Keeps s (t.push ts) :=
  h.pushCarrying fun _ => Task.carries_of_bare bare

theorem pushLast (h : Keeps s t) {ts : List Task} (bare : ts.filterMap Task.probe = []) : Keeps s (t.pushLast ts) :=
  h.todo fun hs x hx =>
    (List.mem_append.mp hx).elim ((t.bridgeLawful_iff.mp (h.bridge hs)).2.2 x) (Task.carries_of_bare bare x)

end Keeps
end Sys2Proof.Machine

/-! Messages on the link keep its bounds (R176, R177), and the bank's operations keep its balance (R137). -/

namespace Sys2Proof.Machine

/-! ## Event notices of a queue -/

theorem Message.hasKey_iff (k : NoticeKey) (m : Message) : m.hasKey k = true ↔ m.cls = .event k := by
  simp [Message.hasKey]

theorem mem_eventKeys_iff (k : NoticeKey) (q : List Message) : k ∈ eventKeys q ↔ q.any (Message.hasKey k) = true := by
  simp only [eventKeys, List.mem_filterMap, List.any_eq_true, Message.hasKey_iff]
  refine exists_congr fun m => and_congr_right fun _ => ?_
  cases m.cls <;> simp

theorem eventKeys_append (q r : List Message) : eventKeys (q ++ r) = eventKeys q ++ eventKeys r := List.filterMap_append

theorem eventKeys_group {m : Message} (h : m.isGroup = true) : eventKeys [m] = [] := by
  have group : m.cls = .group := by simpa [Message.isGroup] using h
  simp [eventKeys, group]

theorem eventKeys_notice {m : Message} {k : NoticeKey} (h : m.cls = .event k) : eventKeys [m] = [k] := by
  simp [eventKeys, h]

theorem eventKeys_sublist {q r : List Message} (h : q.Sublist r) : (eventKeys q).Sublist (eventKeys r) :=
  h.filterMap _

/-- A notice in the place of the waiting one of its key leaves the keys of the queue as they are. -/
theorem eventKeys_replace {m : Message} {k : NoticeKey} (h : m.cls = .event k) (q : List Message) :
    eventKeys (q.map fun x => if x.hasKey k then m else x) = eventKeys q := by
  rw [eventKeys, List.filterMap_map]
  refine List.filterMap_congr fun x _ => ?_
  by_cases hx : x.cls = .event k <;> simp [Function.comp, Message.hasKey, hx, h]

theorem eventKeys_putNotice_nodup {m : Message} {k : NoticeKey} (h : m.cls = .event k) {q : List Message}
    (hq : (eventKeys q).Nodup) : (eventKeys (putNotice k m q)).Nodup := by
  unfold putNotice
  split
  next => rwa [eventKeys_replace h]
  next absent =>
    rw [← mem_eventKeys_iff] at absent
    rw [eventKeys_append, eventKeys_notice h]
    exact List.nodup_append.mpr ⟨hq, List.nodup_singleton k, fun x hx y hy e => absent (List.mem_singleton.mp hy ▸ e ▸ hx)⟩

/-- A notice of a key uses no reply place, nor does the one whose place it takes. -/
theorem putNotice_groups {m : Message} {k : NoticeKey} (h : m.cls = .event k) (q : List Message) :
    (putNotice k m q).countP Message.isGroup = q.countP Message.isGroup := by
  unfold putNotice
  split
  next =>
    rw [List.countP_map]
    refine List.countP_congr fun x _ => ?_
    by_cases hx : x.cls = .event k <;> simp [Function.comp, Message.hasKey, Message.isGroup, hx, h]
  next => simp [Message.isGroup, h]

/-! ## The bounds of the link -/

namespace Link.Bounded

variable {l : Link}

/-- The queue after a notice. -/
theorem notice (h : l.Bounded) {m : Message} {k : NoticeKey} (hm : m.cls = .event k) :
    Link.Bounded { l with txq := putNotice k m l.txq } := by
  obtain ⟨rx, places, keys, held⟩ := h
  exact ⟨rx, by simpa [Link.placesUsed, putNotice_groups hm] using places, eventKeys_putNotice_nodup hm keys, held⟩

/-- A reply or COMPLETION notice joins a queue with a place for it. -/
theorem enqueue (h : l.Bounded) {m : Message} (hm : m.isGroup = true) (room : l.hasPlace = true) :
    Link.Bounded { l with txq := l.txq ++ [m] } := by
  obtain ⟨rx, -, keys, held⟩ := h
  have free : l.placesUsed < Config.groupPlaces := by simpa [Link.hasPlace] using room
  refine ⟨rx, ?_, ?_, held⟩
  · simp only [Link.placesUsed, List.countP_append, List.countP_singleton, hm, if_true]
    exact free
  · simpa [eventKeys_append, eventKeys_group hm] using keys

theorem hold (h : l.Bounded) {m : Message} (hm : m.isGroup = true) : Link.Bounded { l with held := l.held ++ [m] } := by
  obtain ⟨rx, places, keys, held⟩ := h
  exact ⟨rx, places, keys, fun x hx => (List.mem_append.mp hx).elim (held x) fun e => by simpa [List.mem_singleton.mp e]⟩

/-- Messages leave the queue. -/
theorem shorten (h : l.Bounded) {q : List Message} (hq : q.Sublist l.txq) : Link.Bounded { l with txq := q } := by
  obtain ⟨rx, places, keys, held⟩ := h
  exact ⟨rx, (hq.countP_le).trans places, keys.sublist (eventKeys_sublist hq), held⟩

theorem dropHeld (h : l.Bounded) {m : Message} {rest : List Message} (e : l.held = m :: rest) :
    m.isGroup = true ∧ Link.Bounded { l with held := rest } := by
  obtain ⟨rx, places, keys, held⟩ := h
  exact ⟨held m (by simp [e]), rx, places, keys, fun x hx => held x (by simp [e, hx])⟩

/-- The receive buffer after a byte has arrived (R173). -/
theorem keep (h : l.Bounded) (b : Byte) (gap : Bool) : (l.keep b gap).Bounded := by
  obtain ⟨rx, places, keys, held⟩ := h
  unfold Link.keep
  split
  next => exact ⟨rx, places, keys, held⟩
  next room => exact ⟨by simpa using room, places, keys, held⟩

theorem takeByte (h : l.Bounded) {b : RxByte} {rest : List RxByte} (e : l.rx = b :: rest) :
    Link.Bounded { l with rx := rest } := by
  obtain ⟨rx, places, keys, held⟩ := h
  exact ⟨(Nat.le_succ _).trans (by simpa [e] using rx), places, keys, held⟩

end Link.Bounded

/-- When the head of the queue is a reply, its going frees a place. -/
theorem Link.hasPlace_of_head {l l' : Link} (h : l.Bounded) {m : Message} {rest : List Message} (e : l.txq = m :: rest)
    (hm : m.isGroup = true) (e' : l'.txq = rest) : l'.hasPlace = true := by
  obtain ⟨-, places, -, -⟩ := h
  simp only [Link.placesUsed, e, List.countP_cons, hm, if_true] at places
  simpa [Link.hasPlace, Link.placesUsed, e'] using places

@[simp] theorem State.notice_placesUsed (s : State) (k : NoticeKey) (body : List Byte) :
    (s.notice k body).link.placesUsed = s.link.placesUsed := by
  rcases s.notice_cases k body with ⟨-, e⟩ | ⟨-, e⟩ <;> rw [e]
  exact putNotice_groups rfl _

/-! ## Messages -/

namespace Keeps

variable {s t : State}

theorem enqueue (h : Keeps s t) {m : Message} (hm : m.isGroup = true)
    (room : s.link.Bounded → t.link.hasPlace = true) : Keeps s (t.enqueue m) :=
  h.linkUpdate (fun hs => (h.link hs).enqueue hm (room hs)) rfl

theorem reply (h : Keeps s t) (room : s.link.Bounded → t.link.hasPlace = true) {kind tag : Byte} {body : List Byte} :
    Keeps s (t.reply kind tag body) :=
  h.enqueue rfl room

theorem notice (h : Keeps s t) {k : NoticeKey} {body : List Byte} : Keeps s (t.notice k body) := by
  rcases t.notice_cases k body with ⟨-, e⟩ | ⟨-, e⟩ <;> rw [e]
  · exact h
  · exact h.modLink (fun ht => ht.notice rfl) rfl

theorem complete (h : Keeps s t) {tag : Byte} {body : List Byte} : Keeps s (t.complete tag body) := by
  rcases t.complete_cases tag body with ⟨ready, e⟩ | ⟨-, e⟩ <;> rw [e]
  · have room : t.link.hasPlace = true := by
      unfold Link.ready at ready
      exact (Bool.and_eq_true_iff.mp ready).2
    exact h.enqueue rfl fun _ => room
  · exact h.modLink (fun ht => ht.hold rfl) rfl

theorem slotNotice (h : Keeps s t) {i : SlotNo} : Keeps s (t.slotNotice i) := h.notice

theorem outNotice (h : Keeps s t) {cause : OutCause} : Keeps s (t.outNotice cause) := h.notice

theorem coinNotice (h : Keeps s t) {cause : CoinCause} : Keeps s (t.coinNotice cause) := h.notice

theorem supplyNotice (h : Keeps s t) : Keeps s t.supplyNotice := h.notice

theorem completeSelect (h : Keeps s t) {tag : Byte} {slot : Option SlotNo} {outcome step : Result} :
    Keeps s (t.completeSelect tag slot outcome step) := h.complete

end Keeps

/-! ## The bank -/

namespace CoinUnit.Balanced

variable {c : CoinUnit}

/-- What an addition moves between the terms of a balance. -/
theorem regroup {bank units bank' lost : BitVec 32} (p c l : BitVec 32) (h : bank + units = bank' + lost) :
    p + bank + c + l + units = p + bank' + c + (l + lost) := by
  calc p + bank + c + l + units = p + (bank + units) + c + l := by ac_rfl
    _ = p + bank' + c + (l + lost) := by rw [h]; ac_rfl

/-- An addition of units keeps the balance when as many are counted as accepted or added: the part the bank cannot hold is
lost (R136, R137). -/
theorem units (h : c.Balanced) (n : Nat) :
    c.totals.accepted + c.totals.added + BitVec.ofNat 32 n =
      c.totals.paid + BitVec.ofNat 32 (min 255 (c.bank + n)) + c.totals.cleared + raise c.totals.lost (excess c.bank n) := by
  obtain ⟨balance, -⟩ := h
  have split : c.bank + n = min 255 (c.bank + n) + excess c.bank n := by
    unfold excess
    omega
  have words : BitVec.ofNat 32 c.bank + BitVec.ofNat 32 n =
      BitVec.ofNat 32 (min 255 (c.bank + n)) + BitVec.ofNat 32 (excess c.bank n) := by
    rw [← BitVec.ofNat_add, ← BitVec.ofNat_add, ← split]
  rw [balance]
  exact regroup _ _ _ words

theorem acceptCoin (h : c.Balanced) (n : Nat) : (c.acceptCoin n).Balanced :=
  ⟨by
    have u := h.units n
    simp only [CoinUnit.acceptCoin, CoinUnit.addUnits, raise] at u ⊢
    rw [← u]
    ac_rfl, Nat.min_le_left _ _⟩

theorem addCredit (h : c.Balanced) (n : Nat) : (c.addCredit n).Balanced :=
  ⟨by
    have u := h.units n
    simp only [CoinUnit.addCredit, CoinUnit.addUnits, raise] at u ⊢
    rw [← u]
    ac_rfl, Nat.min_le_left _ _⟩

theorem clearCredit (h : c.Balanced) : c.clearCredit.Balanced := by
  obtain ⟨balance, -⟩ := h
  refine ⟨?_, Nat.zero_le _⟩
  simp only [CoinUnit.clearCredit, raise, balance, BitVec.add_zero]
  ac_rfl

theorem payUnits (h : c.Balanced) {n : Nat} (banked : n ≤ c.bank) : (c.payUnits n).Balanced := by
  obtain ⟨balance, full⟩ := h
  refine ⟨?_, (Nat.sub_le _ _).trans full⟩
  have words : BitVec.ofNat 32 c.bank = BitVec.ofNat 32 n + BitVec.ofNat 32 (c.bank - n) := by
    rw [← BitVec.ofNat_add, Nat.add_sub_cancel' banked]
  simp only [CoinUnit.payUnits, raise, balance, words]
  ac_rfl

end CoinUnit.Balanced

end Sys2Proof.Machine

/-! The operations of the Slot Table, the Power Supervisor, the Coin Unit, the Harness Tester, the Timing Unit and the
Work Runner keep the laws. -/

namespace Sys2Proof.Machine

/-- The figures of a completed probe are clamped (R57). -/
theorem goodRecord_clamped (t256 a b : Nat) : (goodRecord t256 a b).Clamped := by
  rintro d ⟨⟩
  exact ⟨clamp_ge _ _ _, clamp_le (by decide) _, clamp_ge _ _ _, clamp_le (by decide) _⟩

/-- The record of a failed probe has no figures. -/
theorem Measure.failRecord_clamped (m : Measure) (v : Verdict) : (m.failRecord v).Clamped := by
  rintro d ⟨⟩

/-- A probe ends with a clamped record. -/
def ProbeStep.Clamped : ProbeStep → Prop
  | .goes _ => True
  | .ends p => p.Clamped

theorem Measure.finished_clamped (m : Measure) : m.finished.Clamped := by
  unfold Measure.finished
  split
  next => exact goodRecord_clamped _ _ _
  next => trivial

theorem Measure.fails_clamped (m : Measure) (now : Nat) (v : Verdict) : (m.fails now v).Clamped :=
  m.failRecord_clamped _

theorem Measure.linePulse_clamped (m : Measure) (now : Nat) (opens : Bool) : (m.linePulse now opens).Clamped := by
  unfold Measure.linePulse
  dsimp only
  repeat' split
  · trivial
  · exact Measure.fails_clamped _ _ _
  · exact Measure.finished_clamped _
  · exact Measure.finished_clamped _
  · trivial
  · trivial
  · exact Measure.fails_clamped _ _ _
  · trivial
  · trivial
  · exact Measure.fails_clamped _ _ _

theorem Measure.framePulse_clamped (m : Measure) (now : Nat) (coincident : Bool) :
    (m.framePulse now coincident).Clamped := by
  unfold Measure.framePulse
  dsimp only
  repeat' split
  · trivial
  · exact Measure.failRecord_clamped _ _
  · trivial
  · exact Measure.failRecord_clamped _ _
  · trivial
  · exact Measure.failRecord_clamped _ _
  · exact Measure.finished_clamped _
  · exact Measure.failRecord_clamped _ _
  · exact Measure.finished_clamped _
  · trivial

namespace Keeps

variable {s t : State} {i : SlotNo}

/-! ## Slot states and the switch (R6 to R19) -/

theorem toBridge (h : Keeps s t) : Keeps s t.toBridge :=
  h.modBridge (fun ⟨timing, _, cls⟩ => ⟨timing, timing, cls⟩) (by rfl)

theorem setState (h : Keeps s t) {st : SlotState} : Keeps s (t.setState i st) := by
  unfold State.setState
  dsimp only
  split
  · exact h.modSlot (by rfl)
  · exact (h.modSlot (by rfl)).slotNotice

theorem faultSlot (h : Keeps s t) {r : Result} : Keeps s (t.faultSlot i r) := (h.modSlot (by rfl)).setState

theorem settleTo (h : Keeps s t) {st : SlotState} : Keeps s (t.settleTo i st) := by
  unfold State.settleTo
  split
  · exact (h.modSlot (by rfl)).faultSlot
  · exact h.setState

theorem activate (h : Keeps s t) : Keeps s (t.activate i) := by
  unfold State.activate
  split
  · exact h.setState
  · exact h

theorem settleVerdict (h : Keeps s t) {v : Verdict} : Keeps s (t.settleVerdict i v) := by
  unfold State.settleVerdict
  repeat' split
  · exact h.settleTo
  · exact h.settleTo
  · exact h.faultSlot

theorem applyProbe (h : Keeps s t) {p : ProbeRecord} (clamped : s.BridgeLawful → p.Clamped) :
    Keeps s (t.applyProbe i p) :=
  (h.slotUpdate (fun hs => (h.settings hs).slot i) fun hs _ e => by cases e; exact clamped hs).settleVerdict

theorem grantTo (h : Keeps s t) : Keeps s (t.grantTo i) := ((h.modSupply (by rfl)).modSlot (by rfl)).setState

theorem grantTest (h : Keeps s t) : Keeps s t.grantTest := by
  unfold State.grantTest
  repeat' split
  · exact h.grantTo
  · exact h
  · exact h

theorem joinWait (h : Keeps s t) : Keeps s (t.joinWait i) := (h.modSupply (by rfl)).setState.push (by rfl)

theorem leaveWait (h : Keeps s t) : Keeps s (t.leaveWait i) := h.modSupply (by rfl)

theorem releasePermit (h : Keeps s t) : Keeps s (t.releasePermit i) := by
  unfold State.releasePermit
  split
  · exact (h.modSupply (by rfl)).push (by rfl)
  · exact h

theorem openSwitch (h : Keeps s t) : Keeps s (t.openSwitch i) := h.clearProbe (by rfl)

theorem outgoingOpened (h : Keeps s t) : Keeps s (t.outgoingOpened i) := by
  unfold State.outgoingOpened
  repeat' split
  · exact h
  · exact h.toBridge
  · exact h.toBridge.push (by rfl)
  · exact h
  · exact h

theorem powerDown (h : Keeps s t) : Keeps s (t.powerDown i) := h.openSwitch.setState.releasePermit.outgoingOpened

theorem powerOff (h : Keeps s t) : Keeps s (t.powerOff i) := by
  unfold State.powerOff
  repeat' split
  · exact h.powerDown
  · exact h.powerDown
  · exact h.powerDown
  · exact h.powerDown
  · exact h.powerDown
  · exact h
  · exact h.leaveWait.setState
  · exact h
  · exact h
  · exact h
  · exact h
  · exact h

theorem markRest (h : Keeps s t) {b : Bool} : Keeps s (t.markRest i b) := h.modSlot (by rfl)

theorem powerOn (h : Keeps s t) : Keeps s (t.powerOn i) := by
  unfold State.powerOn
  repeat' split
  · exact h.joinWait
  · exact h.markRest
  · exact h.push (by rfl)
  · exact h.markRest
  · exact h.joinWait
  · exact h
  · exact h
  · exact h.push (by rfl)
  · exact h.push (by rfl)
  · exact h.push (by rfl)
  · exact h.push (by rfl)
  · exact h.push (by rfl)
  · exact h.push (by rfl)

theorem restEnds (h : Keeps s t) : Keeps s (t.restEnds i) := by
  unfold State.restEnds
  dsimp only
  repeat' split
  · exact (h.modSlot (by rfl)).joinWait
  · exact (h.modSlot (by rfl)).setState
  · exact (h.modSlot (by rfl)).joinWait
  · exact h.modSlot (by rfl)
  · exact h.modSlot (by rfl)

theorem warmUpEnds (h : Keeps s t) : Keeps s (t.warmUpEnds i) := by
  refine ((h.modSlot (by rfl)).settleTo.push ?_).releasePermit
  split <;> rfl

theorem shedTest (h : Keeps s t) : Keeps s (t.shedTest i) := by
  unfold State.shedTest
  split
  · exact h.powerDown
  · exact h

theorem clearShed (h : Keeps s t) {x : Option SlotNo} : Keeps s (t.clearShed x) := by
  unfold State.clearShed
  split
  · exact h
  · exact h.modSlot (by rfl)

/-! ## Coins (R132 to R147) -/

theorem beginPulse (h : Keeps s t) {p : CoinProfile} (banked : p.units ≤ t.coin.bank) : Keeps s (t.beginPulse i p) :=
  ((h.modCoin (fun ht => ht.payUnits banked) (by rfl)).modCoin (by exact id) (by rfl)).coinNotice

theorem payoutTest (h : Keeps s t) : Keeps s t.payoutTest := by
  unfold State.payoutTest
  repeat' split
  next runs =>
    have banked := (Bool.and_eq_true_iff.mp runs).2
    exact h.beginPulse (of_decide_eq_true banked)
  · exact h
  · exact h

theorem abandonPulse (h : Keeps s t) : Keeps s (t.abandonPulse i) := by
  unfold State.abandonPulse
  repeat' split
  · exact h.modCoin (by exact id) (by rfl)
  · exact h
  · exact h

theorem pulseOnEnds (h : Keeps s t) {p : Pulse} : Keeps s (t.pulseOnEnds p) := h.modCoin (by exact id) (by rfl)

theorem pulseOffEnds (h : Keeps s t) : Keeps s t.pulseOffEnds := (h.modCoin (by exact id) (by rfl)).push (by rfl)

end Keeps

@[simp] theorem CoinUnit.setInput_settings (c : CoinUnit) (x : CoinInput) (r : CoinIn) :
    (c.setInput x r).settings = c.settings := by
  cases x <;> rfl

theorem CoinUnit.Balanced.setInput {c : CoinUnit} (h : c.Balanced) (x : CoinInput) (r : CoinIn) :
    (c.setInput x r).Balanced := by
  cases x <;> exact h

@[simp] theorem CoinUnit.setMeter_settings (c : CoinUnit) (m : MeterNo) (r : Meter) :
    (c.setMeter m r).settings = c.settings := by
  cases m <;> rfl

theorem CoinUnit.Balanced.setMeter {c : CoinUnit} (h : c.Balanced) (m : MeterNo) (r : Meter) :
    (c.setMeter m r).Balanced := by
  cases m <;> exact h

@[simp] theorem CoinUnit.countMeter_settings (c : CoinUnit) (x : CoinInput) (now : Nat) :
    (c.countMeter x now).settings = c.settings := by
  unfold CoinUnit.countMeter
  split <;> simp

theorem CoinUnit.Balanced.countMeter {c : CoinUnit} (h : c.Balanced) (x : CoinInput) (now : Nat) :
    (c.countMeter x now).Balanced := by
  unfold CoinUnit.countMeter
  split
  · exact h
  · exact h.setMeter _ _

/-- The totals of coins, jams and noise are no part of the balance (R137). -/
theorem CoinUnit.Balanced.count {c : CoinUnit} (h : c.Balanced) (x : CoinInput) :
    CoinUnit.Balanced { c with totals := c.totals.countCoin x } ∧
      CoinUnit.Balanced { c with totals := c.totals.countJam x } ∧
      CoinUnit.Balanced { c with totals := c.totals.countNoise x } := by
  cases x <;> exact ⟨h, h, h⟩

namespace Keeps

variable {s t : State} {i : SlotNo} {x : CoinInput}

theorem bankCoin (h : Keeps s t) : Keeps s (t.bankCoin x) :=
  (h.modCoin (fun ht => (ht.acceptCoin _).countMeter _ _) (by simp [CoinUnit.acceptCoin, CoinUnit.addUnits])).payoutTest.coinNotice

theorem setClosure (h : Keeps s t) {st : Closure} : Keeps s (t.setClosure x st) :=
  h.modCoin (fun ht => ht.setInput _ _) (by simp)

theorem jam (h : Keeps s t) : Keeps s (t.jam x) := (h.setClosure.modCoin (fun ht => (ht.count x).2.1) (by rfl)).coinNotice

theorem clearJam (h : Keeps s t) : Keeps s (t.clearJam x) := h.setClosure.coinNotice

theorem coinCloses (h : Keeps s t) : Keeps s (t.coinCloses x) := h.modCoin (fun ht => ht.setInput _ _) (by simp)

theorem coinOpens (h : Keeps s t) : Keeps s (t.coinOpens x) := by
  have opened : Keeps s (t.modCoin fun c => c.setInput x { t.coin.input x with closed := false }) :=
    h.modCoin (fun ht => ht.setInput _ _) (by simp)
  unfold State.coinOpens
  dsimp only
  repeat' split
  · exact opened
  · exact opened.clearJam
  · exact opened.setClosure.modCoin (fun ht => (ht.count x).2.2) (by rfl)
  · exact (opened.setClosure.modCoin (fun ht => (ht.count x).1) (by rfl)).bankCoin
  · exact opened.jam.clearJam

theorem coinSwitch (h : Keeps s t) {closed : Bool} : Keeps s (t.coinSwitch x closed) := by
  unfold State.coinSwitch
  repeat' split
  · exact h
  · exact h.coinCloses
  · exact h.coinOpens

theorem coinMaximum (h : Keeps s t) : Keeps s (t.coinMaximum x) := by
  unfold State.coinMaximum
  dsimp only
  split
  · exact (h.reach _).jam
  · exact h

theorem rejudge (h : Keeps s t) : Keeps s (t.rejudge x) := by
  unfold State.rejudge
  dsimp only
  split
  · exact h.jam
  · exact h

/-! ## The Harness Tester (R163 to R171) -/

theorem modTester (h : Keeps s t) {f : Tester → Tester} : Keeps s (t.modTester f) := h.others

theorem beginTest (h : Keeps s t) : Keeps s (t.beginTest i) := by
  unfold State.beginTest
  split
  · exact h
  · exact (h.modTester.modSlot (by rfl)).setState.push (by rfl)

theorem askTester (h : Keeps s t) : Keeps s (t.askTester i) := by
  unfold State.askTester
  split
  · exact h.beginTest
  · exact h.modTester

theorem handTester (h : Keeps s t) : Keeps s t.handTester := by
  unfold State.handTester
  dsimp only
  repeat' split
  · exact h.modTester.push (by rfl)
  · exact h.modTester.beginTest
  · exact h

theorem leaveTester (h : Keeps s t) : Keeps s (t.leaveTester i) := h.modTester

theorem leaveTesting (h : Keeps s t) : Keeps s (t.leaveTesting i) := (h.modSlot (by rfl)).settleTo

theorem freeTester (h : Keeps s t) {v : TestVerdict} : Keeps s (t.freeTester v) := h.modTester

theorem stopTest (h : Keeps s t) : Keeps s t.stopTest := h.freeTester

theorem patternEnds (h : Keeps s t) {r : TestRun} {high : Lines} : Keeps s (t.patternEnds r high) := by
  unfold State.patternEnds
  dsimp only
  split
  · split
    · exact h.modTester.modTester
    · exact h.modTester.freeTester.leaveTesting.push (by rfl)
  · exact h

/-! ## The Picture Sampler (R152 to R156) -/

theorem modSampler (h : Keeps s t) {f : Sampler → Sampler} : Keeps s (t.modSampler f) := h.others

theorem gridSample (h : Keeps s t) {red green blue : Bool} : Keeps s (t.gridSample red green blue) := by
  unfold State.gridSample
  split
  · exact h
  · exact (h.reach _).modSampler

theorem declareStall (h : Keeps s t) : Keeps s (t.declareStall i) := by
  unfold State.declareStall
  split
  · exact h.modSampler.notice
  · exact h

/-! ## The Timing Unit (R43 to R64) -/

theorem modTap (h : Keeps s t) {f : Tap → Tap} : Keeps s (t.modTap i f) := h.others

theorem setEngine (h : Keeps s t) {k : EngineNo} {m : Option Measure} : Keeps s (t.setEngine k m) := h.others

theorem takeHead (h : Keeps s t) {k : EngineNo} : Keeps s (t.takeHead k) := by
  unfold State.takeHead
  split
  · exact h.others
  · exact h

theorem takeEngines (h : Keeps s t) : Keeps s t.takeEngines := h.takeHead.takeHead

theorem placeWork (h : Keeps s t) : Keeps s (t.placeWork i) := takeEngines h.others

theorem placeOutput (h : Keeps s t) : Keeps s (t.placeOutput i) := by
  unfold State.placeOutput
  split
  · exact h
  · exact takeEngines h.others

theorem stopOn (h : Keeps s t) {k : EngineNo} {r : ProbeRequest} : Keeps s (t.stopOn k r) := by
  unfold State.stopOn
  split
  · exact h.setEngine
  · exact h

theorem releaseOn (h : Keeps s t) {k : EngineNo} {r : ProbeRequest} : Keeps s (t.releaseOn k r) := by
  unfold State.releaseOn
  split
  · exact h.setEngine
  · exact h

theorem stopWork (h : Keeps s t) : Keeps s (t.stopWork i) := (stopOn (stopOn h.others)).takeEngines

theorem releaseRequest (h : Keeps s t) {r : ProbeRequest} : Keeps s (t.releaseRequest r) :=
  releaseOn (releaseOn h.others)

theorem withdrawOutput (h : Keeps s t) : Keeps s (t.withdrawOutput i) := h.releaseRequest

theorem releaseWork (h : Keeps s t) : Keeps s (t.releaseWork i) := h.releaseRequest

theorem endProbe (h : Keeps s t) {k : EngineNo} {p : ProbeRecord} (clamped : p.Clamped) : Keeps s (t.endProbe k p) := by
  unfold State.endProbe
  dsimp only
  repeat' split
  · exact h
  · exact h.setEngine.takeEngines
  · exact h.setEngine.takeEngines.pushCarrying fun _ => by simpa [Task.Carries, Task.probe] using clamped
  · exact h.setEngine.takeEngines.pushCarrying fun _ => by simpa [Task.Carries, Task.probe] using clamped

theorem probeStep (h : Keeps s t) {k : EngineNo} {x : ProbeStep} (clamped : x.Clamped) : Keeps s (t.probeStep k x) := by
  cases x with
  | goes m => exact h.setEngine
  | ends p => exact h.endProbe clamped

theorem engineLine (h : Keeps s t) {k : EngineNo} {opens : Bool} : Keeps s (t.engineLine k opens) := by
  unfold State.engineLine
  split
  · exact h
  · exact h.probeStep (Measure.linePulse_clamped _ _ _)

theorem engineFrame (h : Keeps s t) {k : EngineNo} {coincident : Bool} : Keeps s (t.engineFrame k coincident) := by
  unfold State.engineFrame
  split
  · exact h
  · exact h.probeStep (Measure.framePulse_clamped _ _ _)

theorem frameWatchEnds (h : Keeps s t) {k : EngineNo} : Keeps s (t.frameWatchEnds k) := by
  unfold State.frameWatchEnds
  split
  · exact h
  · exact (h.reach _).endProbe (Measure.failRecord_clamped _ _)

theorem lineOverflows (h : Keeps s t) {k : EngineNo} : Keeps s (t.lineOverflows k) := by
  unfold State.lineOverflows
  dsimp only
  repeat' split
  · exact h
  · exact (h.reach _).probeStep (Measure.fails_clamped _ _ _)
  · exact h

/-! ## The Work Runner (R25 to R41) -/

theorem turn (h : Keeps s t) : Keeps s (t.turn i) := by
  unfold State.turn
  dsimp only
  repeat' split
  · exact h
  · exact (h.modQueue (by exact id)).push (by rfl)
  · exact h.shedTest
  · exact (h.modQueue (by exact id)).push (by rfl)

theorem beginProbe (h : Keeps s t) : Keeps s (t.beginProbe i) := by
  unfold State.beginProbe
  dsimp only
  split
  · exact h.placeWork.push (by rfl)
  · exact (h.modSlot (by rfl)).setState.placeWork.push (by rfl)

theorem startStep (h : Keeps s t) {x : WorkStep} : Keeps s (t.startStep i x) := by
  unfold State.startStep
  split
  · exact h.powerOn
  · exact (h.push (by rfl)).powerOff
  · exact h.beginProbe
  · exact h.askTester
  · exact h.modQueue (by exact id)

theorem clearRestart (h : Keeps s t) : Keeps s (t.clearRestart i) := h.modSlot (by rfl)

end Keeps

/-- An entry that leaves a queue makes it no longer. -/
theorem Queue.dropRunning_short (q : Queue) (who : Runner) (h : q.ctrl.length ≤ 4) :
    (q.dropRunning who).ctrl.length ≤ 4 := by
  cases who with
  | output => exact h
  | controller => exact (by simp [Queue.dropRunning]; omega)

@[simp] theorem Queue.modEntry_length (q : Queue) (who : Runner) (f : Entry → Entry) :
    (q.modEntry who f).ctrl.length = q.ctrl.length := by
  cases who with
  | output => rfl
  | controller =>
    unfold Queue.modEntry
    dsimp only
    split <;> simp [*]

namespace Keeps

variable {s t : State} {i : SlotNo}

theorem endEntry (h : Keeps s t) {who : Runner} {e : Entry} {r : Result} {p : Option ProbeRecord} :
    Keeps s (t.endEntry i who e r p) := by
  have dropped : Keeps s (t.modQueue i fun q => q.dropRunning who) := h.modQueue (Queue.dropRunning_short _ _)
  unfold State.endEntry
  dsimp only
  split
  · exact dropped.complete.push (by rfl)
  · exact dropped.push (by split <;> rfl)
  · exact dropped.clearRestart.push (by rfl)

theorem beginBare (h : Keeps s t) {e : Entry} : Keeps s (t.beginBare i e) := by
  rcases t.beginBare_cases i e with ⟨-, eq⟩ | ⟨-, steps, eq⟩ <;> rw [eq]
  · exact h.endEntry
  · exact (h.modQueue (by exact id)).push (by rfl)

theorem beginStep (h : Keeps s t) : Keeps s (t.beginStep i) := by
  unfold State.beginStep
  repeat' split
  · exact h
  · exact h.beginBare
  · exact h
  · exact h.push (by rfl)
  · exact h.startStep

theorem stepEnds (h : Keeps s t) {r : Result} {p : Option ProbeRecord} : Keeps s (t.stepEnds i r p) := by
  unfold State.stepEnds
  dsimp only
  repeat' split
  · exact (h.modQueue fun short => by simpa using short).push (by rfl)
  · exact h.endEntry
  · exact h

theorem workProbeDone (h : Keeps s t) {p : ProbeRecord} (clamped : s.BridgeLawful → p.Clamped) :
    Keeps s (t.workProbeDone i p) := by
  have carries (hs : s.BridgeLawful) :
      ∀ x ∈ [Task.targetCheck, .heldCheck i, .stepEnd i p.verdict.result (some p)], x.Carries := by
    simpa [Task.Carries, Task.probe] using clamped hs
  unfold State.workProbeDone
  dsimp only
  repeat' split
  · exact (h.applyProbe clamped).pushCarrying carries
  · exact (h.applyProbe clamped).pushCarrying carries
  · exact (h.applyProbe clamped).pushCarrying carries
  · exact h.pushCarrying carries
  · exact h.pushCarrying carries

theorem leaveProbing (h : Keeps s t) : Keeps s (t.leaveProbing i) := by
  unfold State.leaveProbing
  dsimp only
  split
  · exact (h.modSlot (by rfl)).settleTo
  · exact h

theorem abortPowerOn (h : Keeps s t) : Keeps s (t.abortPowerOn i) := by
  unfold State.abortPowerOn
  split
  · exact h.leaveWait.settleTo
  · exact h.markRest

theorem abortStep (h : Keeps s t) : Keeps s (t.abortStep i) := by
  unfold State.abortStep
  repeat' split
  · exact h.abortPowerOn
  · exact h.stopWork.leaveProbing
  · exact h.stopTest.leaveTesting.push (by rfl)
  · exact h.leaveTester
  · exact h

theorem completeAborted (h : Keeps s t) {l : List Entry} : Keeps s (t.completeAborted i l) := by
  induction l generalizing t with
  | nil => exact h
  | cons e rest ih =>
    unfold State.completeAborted
    split
    · exact ih h.complete
    · exact ih h

theorem abortWork (h : Keeps s t) : Keeps s (t.abortWork i) := by
  have emptied {u : State} (hu : Keeps s u) : Keeps s (u.modQueue i fun x =>
      if x.running = some .controller then { x with ctrl := [], running := none, pauseEnd := none }
      else { x with ctrl := [] }) :=
    hu.modQueue fun _ => by split <;> simp
  unfold State.abortWork
  dsimp only
  split
  · exact (emptied (h.push (by rfl)).abortStep).completeAborted
  · exact (emptied (h.push (by rfl))).completeAborted

theorem placePrepare (h : Keeps s t) : Keeps s (t.placePrepare i) := (h.modQueue (by exact id)).push (by rfl)

theorem convertRestart (h : Keeps s t) : Keeps s (t.convertRestart i) := (h.modQueue (by exact id)).clearRestart

theorem removePrepare (h : Keeps s t) : Keeps s (t.removePrepare i) := by
  unfold State.removePrepare
  repeat' split
  · exact h
  · exact h.modQueue fun short => by split <;> exact short
  · exact h

theorem placeRestart (h : Keeps s t) : Keeps s (t.placeRestart i) := ((h.modQueue (by exact id)).modSlot (by rfl)).push (by rfl)

theorem stopRestartStep (h : Keeps s t) : Keeps s (t.stopRestartStep i) := by
  unfold State.stopRestartStep
  repeat' split
  · exact h.leaveWait.modSlot (by rfl)
  · exact (h.modSlot (by rfl)).releasePermit
  · exact h.markRest
  · exact h.stopWork.modSlot (by rfl)
  · exact h

theorem endRestart (h : Keeps s t) : Keeps s (t.endRestart i) := by
  unfold State.endRestart
  dsimp only
  split
  · exact (h.stopRestartStep.modQueue (by exact id)).clearRestart
  · exact (h.modQueue (by exact id)).clearRestart

end Keeps
end Sys2Proof.Machine

/-! The operations of the Output Path, the Changeover Sequencer and the tasks of an event keep the laws. -/

namespace Sys2Proof.Machine

/-! ## What the laws give these operations -/

theorem Output.LevelsInRange.atMute {o : Output} (h : o.LevelsInRange) :
    Output.LevelsInRange { o with gain := 63, target := 63 } :=
  ⟨h.1, Nat.le_refl _, Nat.le_refl _⟩

/-- An audio step stays between a gain and a target in range (R74). -/
theorem stepGain_le {gain target : Nat} (hg : gain ≤ 63) (ht : target ≤ 63) : stepGain gain target ≤ 63 := by
  unfold stepGain
  repeat' split
  all_goals omega

/-- A slot's audio level, or the 0 of a slot that is not configured, is in range (R2). -/
theorem State.SettingsInRange.audioLevel {s : State} (h : s.SettingsInRange) (i : SlotNo) :
    s.profileNat i (·.audioLevel) ≤ 62 := by
  unfold State.profileNat State.profile
  cases e : (s.slot i).setup with
  | none => exact Nat.zero_le _
  | some su =>
    obtain ⟨-, -, -, audio, -⟩ := h.slot i su e
    exact audio

/-- A timing taken from a clamped record is in range (R69). -/
theorem ProbeRecord.Clamped.timing {p : ProbeRecord} (h : p.Clamped) {d : Derived} (e : p.derived = some d) :
    BridgeTiming.InRange { ticks := d.lineTicks, lines := d.frameLines } :=
  h d e

/-- The monitor accepts no figures of class OUT (R73). -/
theorem OutSettings.cls_ne_out_of_accept {o : OutSettings} {d : Derived} (h : o.accept d = true) : d.cls ≠ .out := by
  intro e
  simp [OutSettings.accept, OutSettings.accepts, e] at h

namespace Keeps

variable {s t : State} {i : SlotNo}

/-! ## The Output Path (R65 to R87) -/

theorem mute (h : Keeps s t) : Keeps s t.mute := h.modLevels (fun ht => ht.atMute) (by rfl)

/-- A change of a slot's setup that leaves a profile in range. -/
theorem modSetup (h : Keeps s t) {f : Setup → Setup}
    (profile : s.SettingsInRange → ∀ su, su.profile.InRange → (f su).profile.InRange) : Keeps s (t.modSetup i f) :=
  h.slotUpdate
    (fun hs su e => by
      obtain ⟨old, configured, rfl⟩ := Option.map_eq_some_iff.mp e
      exact profile hs old ((h.settings hs).slot i old configured))
    fun hs => (h.bridge hs).slot i

theorem storeLevel (h : Keeps s t) {n : Nat} (level : s.SettingsInRange → n ≤ 62) : Keeps s (t.storeLevel i n) :=
  h.modSetup fun hs _ ⟨warmUp, rest, settle, _, others⟩ => ⟨warmUp, rest, settle, level hs, others⟩

theorem storeMap (h : Keeps s t) {m : InputMap} : Keeps s (t.storeMap i m) := h.modSetup fun _ _ => id

theorem storeStaged (h : Keeps s t) : Keeps s (t.storeStaged i) := by
  have cleared {u : State} (hu : Keeps s u) :
      Keeps s (u.modOut fun o => { o with stagedLevel := none, stagedMap := none }) :=
    hu.modLevels (fun hu => ⟨by simp, hu.2⟩) (by rfl)
  unfold State.storeStaged
  refine cleared ?_
  cases level : t.out.stagedLevel with
  | none =>
    dsimp only
    split
    · exact h.storeMap
    · exact h
  | some n =>
    have stored : Keeps s (t.storeLevel i n) := h.storeLevel fun hs => (h.settings hs).levels.1 n level
    dsimp only
    split
    · exact stored.storeMap
    · exact stored

theorem applyStaged (h : Keeps s t) : Keeps s (t.applyStaged i) := by
  unfold State.applyStaged
  dsimp only
  split
  next n e =>
    refine h.storeStaged.outUpdate (fun hs => (h.storeStaged.bridge hs).bridge) fun hs => ?_
    have level : n ≤ 62 := (h.settings hs).levels.1 n e
    obtain ⟨staged, gain, -⟩ := (h.storeStaged.settings hs).levels
    exact ⟨staged, gain, level.trans (by decide)⟩
  next => exact h.storeStaged

theorem startWatch (h : Keeps s t) : Keeps s (t.startWatch i) := h.modOut (by rfl)

theorem startSampler (h : Keeps s t) : Keeps s (t.startSampler i) := h.modSampler

theorem leaveSlotSync (h : Keeps s t) : Keeps s t.leaveSlotSync := by
  unfold State.leaveSlotSync
  split
  · exact h
  · exact h.toBridge

theorem darkened (h : Keeps s t) : Keeps s (t.modOut Output.darkened) :=
  h.modLevels (fun _ => ⟨by simp [Output.darkened], Nat.le_refl _, Nat.le_refl _⟩) (by rfl)

theorem goDark (h : Keeps s t) {cause : OutCause} : Keeps s (t.goDark cause) := by
  unfold State.goDark
  dsimp only
  split
  · exact h.storeStaged.withdrawOutput.leaveSlotSync.darkened.modSampler.outNotice
  · exact h.leaveSlotSync.darkened.modSampler.outNotice

theorem enterHolding (h : Keeps s t) {form : HoldForm} {time : Nat} {cause : OutCause} :
    Keeps s (t.enterHolding form time cause) :=
  (h.toBridge.mute.modOut (by rfl)).modSampler.outNotice

theorem loss (h : Keeps s t) {cause : OutCause} : Keeps s (t.loss i cause) := h.enterHolding

theorem stallRestart (h : Keeps s t) : Keeps s (t.stallRestart i) := h.enterHolding.placeRestart

theorem modHold (h : Keeps s t) {f : Hold → Hold} : Keeps s (t.modHold f) := h.modOut (by rfl)

theorem beginRejoin (h : Keeps s t) {p : ProbeRecord} {d : Derived} (clamped : s.BridgeLawful → p.Clamped)
    (figures : p.derived = some d) : Keeps s (t.beginRejoin i p d) := by
  have withdrawn : Keeps s (t.withdrawOutput i) := h.withdrawOutput
  unfold State.beginRejoin
  exact withdrawn.outUpdate (fun hs => ⟨(clamped hs).timing figures, (withdrawn.bridge hs).bridge.2⟩)
    fun hs => (withdrawn.settings hs).levels

theorem rejoinDecision (h : Keeps s t) {p : ProbeRecord} {store : Bool} (clamped : s.BridgeLawful → p.Clamped) :
    Keeps s (t.rejoinDecision i p store) := by
  have decided {u : State} {d : Derived} (hu : Keeps s u) (figures : p.derived = some d) :
      Keeps s (if d.cls = u.out.classOut ∧ u.settings.accept d = true then u.beginRejoin i p d
        else ((u.faultSlot i .timingChanged).goDark .timingChanged).push [.shed i]) := by
    split
    · exact hu.beginRejoin clamped figures
    · exact hu.faultSlot.goDark.push (by rfl)
  unfold State.rejoinDecision
  dsimp only
  split
  next figures =>
    split
    · exact decided
        (h.slotUpdate (fun hs => (h.settings hs).slot i) fun hs _ e => by cases e; exact clamped hs) figures
    · exact decided h figures
  next => exact h

theorem stopRejoin (h : Keeps s t) {probing : Bool} : Keeps s (t.stopRejoin probing) := h.leaveSlotSync.modHold

theorem outputProbeDone (h : Keeps s t) {p : ProbeRecord} (clamped : s.BridgeLawful → p.Clamped) :
    Keeps s (t.outputProbeDone i p) := by
  unfold State.outputProbeDone
  split
  · exact h.rejoinDecision clamped
  · exact h

theorem restartOutcome (h : Keeps s t) {r : Result} : Keeps s (t.restartOutcome i r) := by
  unfold State.restartOutcome
  repeat' split
  next p e => exact h.modHold.rejoinDecision fun hs => (h.bridge hs).slot i p e
  · exact h.goDark
  · exact h

theorem heldCheck (h : Keeps s t) : Keeps s (t.heldCheck i) := by
  unfold State.heldCheck
  repeat' split
  next p _ _ e => exact h.withdrawOutput.modHold.rejoinDecision fun hs => (h.bridge hs).slot i p e
  · exact h
  · exact h.stopRejoin.modHold
  · exact h.modHold
  · exact h

theorem completeRejoin (h : Keeps s t) : Keeps s (t.completeRejoin i) := by
  have shown : Keeps s (((t.modOut fun o => { o with blanked := false, mode := .showing, hold := Hold.none }).activate
      i).applyStaged i) := (h.modOut (by rfl)).activate.applyStaged
  unfold State.completeRejoin
  refine push (outNotice (startSampler (startWatch ?_))) (by rfl)
  refine shown.outUpdate (fun hs => (shown.bridge hs).bridge) fun hs => ?_
  obtain ⟨staged, gain, -⟩ := (shown.settings hs).levels
  exact ⟨staged, gain, ((shown.settings hs).audioLevel i).trans (by decide)⟩

theorem cutTo (h : Keeps s t) : Keeps s (t.cutTo i) := h.modOut (by rfl)

theorem rejoinAlign (h : Keeps s t) {coincident : Bool} : Keeps s (t.rejoinAlign i coincident) := by
  unfold State.rejoinAlign
  dsimp only
  repeat' split
  · exact h.cutTo.modHold.completeRejoin
  · exact h.cutTo.modHold
  · exact h.modHold

theorem rejoinSettle (h : Keeps s t) : Keeps s (t.rejoinSettle i) := by
  unfold State.rejoinSettle
  dsimp only
  split
  · exact h.modHold.completeRejoin
  · exact h.modHold

theorem closeFrame (h : Keeps s t) {coincident : Bool} : Keeps s (t.closeFrame i coincident) := by
  have opened {u : State} (hu : Keeps s u) :
      Keeps s (if u.out.mode = .showing then u.modSampler fun x => x.openFrame u.now coincident else u) := by
    split
    · exact hu.modSampler
    · exact hu
  unfold State.closeFrame
  refine opened ?_
  split
  · split
    · exact h.modSampler.declareStall.stallRestart
    · exact h.modSampler.declareStall
  · exact h.modSampler

theorem watchFrame (h : Keeps s t) {coincident : Bool} : Keeps s (t.watchFrame i coincident) := by
  have watched (w : Watch) : Keeps s (t.modOut fun o => { o with watch := w }) := h.modOut (by rfl)
  unfold State.watchFrame
  dsimp only
  generalize (if fitsProbe _ _ = true then 0 else _) = irregular
  split
  · exact (watched _).loss
  · exact (watched _).applyStaged.closeFrame

theorem watchLine (h : Keeps s t) : Keeps s t.watchLine := (h.modOut (by rfl)).modSampler

theorem watchTimerEnds (h : Keeps s t) : Keeps s t.watchTimerEnds := by
  unfold State.watchTimerEnds
  split
  · exact (h.reach _).loss
  · exact h

theorem expireSlot (h : Keeps s t) : Keeps s (t.expireSlot i) := by
  have cooled {u : State} (hu : Keeps s u) : Keeps s (State.faultSlot
      (if (u.slot i).state = .starting then (u.modSlot i fun sl => { sl with warm := none }).releasePermit i else u)
        i .syncLost) := by
    split
    · exact (hu.modSlot (by rfl)).releasePermit.faultSlot
    · exact hu.faultSlot
  unfold State.expireSlot
  split
  · exact h.modSlot (by rfl)
  split
  · exact h.modSlot (by rfl)
  · refine cooled ?_
    split
    · exact h.leaveWait
    · exact h

theorem holdExpires (h : Keeps s t) : Keeps s (t.holdExpires i) := by
  unfold State.holdExpires
  dsimp only
  split
  · exact (h.push (by rfl)).endRestart.expireSlot.goDark
  · exact (h.push (by rfl)).expireSlot.goDark

theorem holdTimerEnds (h : Keeps s t) : Keeps s t.holdTimerEnds := by
  unfold State.holdTimerEnds
  split
  · exact (h.reach _).holdExpires
  · exact h

/-! ## The Changeover Sequencer (R88 to R114) -/

theorem modChange (h : Keeps s t) {f : Change → Change} : Keeps s (t.modChange f) := h.others

theorem setChange (h : Keeps s t) {c : Option Change} : Keeps s { t with chg := c } := h.others

theorem removeTargetEntry (h : Keeps s t) {x : Option SlotNo} : Keeps s (t.removeTargetEntry x) := by
  cases x with
  | none => exact h
  | some i => exact h.removePrepare

end Keeps

@[simp] theorem releasedTasks_bare (x : Option SlotNo) : (releasedTasks x).filterMap Task.probe = [] := by
  cases x <;> rfl

@[simp] theorem startTasks_bare (x : Option Selection) : (startTasks x).filterMap Task.probe = [] := by
  cases x <;> rfl

namespace Keeps

variable {s t : State} {i : SlotNo}

theorem failChange (h : Keeps s t) {reason step : Result} : Keeps s (t.failChange reason step) := by
  unfold State.failChange
  split
  · exact h
  · exact h.setChange.goDark.removeTargetEntry.completeSelect.push (by simp)

theorem endAtNone (h : Keeps s t) : Keeps s t.endAtNone := by
  unfold State.endAtNone
  split
  · exact h
  · exact h.setChange.goDark.completeSelect

theorem programBridge (h : Keeps s t) {p : ProbeRecord} {d : Derived} (clamped : s.BridgeLawful → p.Clamped)
    (figures : p.derived = some d) : Keeps s (t.programBridge d) :=
  h.outUpdate (fun hs => ⟨(clamped hs).timing figures, (h.bridge hs).bridge.2⟩) fun hs => (h.settings hs).levels

theorem reclassify (h : Keeps s t) {p : ProbeRecord} {d : Derived} (clamped : s.BridgeLawful → p.Clamped)
    (figures : p.derived = some d) (accepted : t.settings.accept d = true) : Keeps s (t.reclassify d) := by
  have programmed := h.programBridge clamped figures
  unfold State.reclassify
  dsimp only
  split
  · exact programmed.modChange
  · exact (programmed.modBridge
      (fun ⟨timing, current, _⟩ => ⟨timing, current, OutSettings.cls_ne_out_of_accept accepted⟩) (by rfl)).others

theorem startReclass (h : Keeps s t) : Keeps s (t.startReclass i) := by
  unfold State.startReclass
  dsimp only
  repeat' split
  · exact h
  · exact h.modChange.failChange
  next p probed _ d figures accepted =>
    exact h.modChange.reclassify (fun hs => (h.bridge hs).slot i p probed) figures accepted
  · exact h.modChange.failChange

theorem startPrepare (h : Keeps s t) : Keeps s (t.startPrepare i) := by
  unfold State.startPrepare
  dsimp only
  repeat' split
  · exact h.modChange.convertRestart
  · exact h.modChange.startReclass
  · exact h.modChange.placePrepare

theorem bridgeEnds (h : Keeps s t) : Keeps s t.bridgeEnds := by
  unfold State.bridgeEnds
  repeat' split
  · exact h
  · exact h.endAtNone
  · exact h.startPrepare

theorem bridgeEnd (h : Keeps s t) : Keeps s t.bridgeEnd := by
  unfold State.bridgeEnd
  repeat' split
  · exact h
  · exact h.bridgeEnds
  · exact h

theorem beginBridge (h : Keeps s t) : Keeps s t.beginBridge := by
  unfold State.beginBridge
  split
  · exact h.bridgeEnds
  · exact h.modChange

theorem fadeTest (h : Keeps s t) : Keeps s t.fadeTest := by
  unfold State.fadeTest
  repeat' split
  · exact h
  · exact h.beginBridge
  · exact h

theorem bridgeSwitch (h : Keeps s t) : Keeps s t.bridgeSwitch := h.toBridge.push (by rfl)

theorem prepareOutcome (h : Keeps s t) {r : Result} : Keeps s (t.prepareOutcome i r) := by
  unfold State.prepareOutcome
  repeat' split
  · exact h
  · exact h.startReclass
  · exact h.failChange
  · exact h

theorem releaseOutgoing (h : Keeps s t) : Keeps s (t.releaseOutgoing i) := by
  unfold State.releaseOutgoing
  repeat' split
  · exact h.faultSlot
  · exact h.setState
  · exact h

theorem leaveSource (h : Keeps s t) : Keeps s t.leaveSource := by
  unfold State.leaveSource
  split
  · exact h
  · exact h.releaseOutgoing.storeStaged.withdrawOutput

theorem leaveHeldSync (h : Keeps s t) : Keeps s t.leaveHeldSync := by
  unfold State.leaveHeldSync
  split
  · exact h.leaveSlotSync
  · exact h

theorem changing (h : Keeps s t) : Keeps s (t.modOut Output.changing) :=
  h.modLevels (fun ⟨staged, gain, _⟩ => ⟨staged, gain, Nat.le_refl _⟩) (by rfl)

theorem startChangeover (h : Keeps s t) {sel : Selection} : Keeps s (t.startChangeover sel) :=
  h.leaveSource.leaveHeldSync.changing.modSampler.setChange.clearShed.outNotice.push (by rfl)

theorem startSelection (h : Keeps s t) {sel : Selection} : Keeps s (t.startSelection sel) := by
  unfold State.startSelection
  split
  · exact h.completeSelect
  · exact h.startChangeover

theorem retarget (h : Keeps s t) {sel : Selection} : Keeps s (t.retarget sel) := by
  unfold State.retarget
  dsimp only
  split
  · exact h
  next c _ =>
    have replaced : Keeps s (((t.completeSelect c.tag c.toSlot .superseded .ok).removeTargetEntry c.toSlot).modChange
        (fun c => { c with toSlot := sel.slot, tag := sel.tag, targetProbe := none }) |>.clearShed sel.slot) :=
      h.completeSelect.removeTargetEntry.modChange.clearShed
    refine push ?_ (releasedTasks_bare _)
    repeat' split
    · exact replaced
    · exact replaced.endAtNone
    · exact replaced.startPrepare

theorem storeReselect (h : Keeps s t) {sel : Selection} : Keeps s (t.storeReselect sel) := by
  unfold State.storeReselect
  dsimp only
  repeat' split
  · exact h
  · exact h.completeSelect.modChange
  · exact h.modChange

theorem targetCheck (h : Keeps s t) : Keeps s t.targetCheck := by
  unfold State.targetCheck
  dsimp only
  repeat' split
  · exact h.leaveSlotSync.startPrepare
  · exact h.leaveSlotSync.modChange.retarget
  · exact h
  · exact h

theorem startAlign (h : Keeps s t) : Keeps s t.startAlign := h.modChange

theorem flagShed (h : Keeps s t) {source : Option SlotNo} {target : SlotNo} : Keeps s (t.flagShed source target) := by
  unfold State.flagShed
  dsimp only
  repeat' split
  · exact h
  · exact (h.modSlot (by rfl)).shedTest
  · exact h

theorem completeChange (h : Keeps s t) : Keeps s (t.completeChange i) := by
  unfold State.completeChange
  dsimp only
  split
  · exact h
  next c _ =>
    have shown : Keeps s (((t.modOut fun o =>
        { o with blanked := false, mode := .showing, source := some i, sourceProbe := c.targetProbe }).activate
          i).payoutTest) := (h.modOut (by rfl)).activate.payoutTest
    refine push (completeSelect (outNotice (setChange (flagShed (startSampler (startWatch ?_)))))) (startTasks_bare _)
    refine shown.outUpdate (fun hs => (shown.bridge hs).bridge) fun hs => ?_
    obtain ⟨staged, gain, -⟩ := (shown.settings hs).levels
    exact ⟨staged, gain, ((shown.settings hs).audioLevel i).trans (by decide)⟩

theorem changeAlign (h : Keeps s t) {coincident : Bool} : Keeps s (t.changeAlign i coincident) := by
  unfold State.changeAlign
  dsimp only
  repeat' split
  · exact h
  · exact h.cutTo.modChange.completeChange
  · exact h.cutTo.modChange
  · exact h.modChange

theorem changeSettle (h : Keeps s t) : Keeps s (t.changeSettle i) := by
  unfold State.changeSettle
  dsimp only
  repeat' split
  · exact h
  · exact h.modChange.completeChange
  · exact h.modChange

theorem frameStarts (h : Keeps s t) : Keeps s t.frameStarts :=
  h.modBridge (fun ⟨timing, _, cls⟩ => ⟨timing, timing, cls⟩) (by rfl)

theorem reclassFrame (h : Keeps s t) : Keeps s t.reclassFrame := by
  unfold State.reclassFrame
  dsimp only
  repeat' split
  · exact h
  · exact h.modChange.startAlign
  · exact h.modChange
  · exact h

theorem reclassDeadline (h : Keeps s t) : Keeps s t.reclassDeadline := by
  unfold State.reclassDeadline
  repeat' split
  · exact h
  · exact h.startAlign
  · exact h.startAlign
  · exact h
  · exact h

theorem bridgeTimerEnds (h : Keeps s t) : Keeps s t.bridgeTimerEnds := by
  unfold State.bridgeTimerEnds
  split
  · exact h
  · exact (h.reach _).bridgeSwitch

theorem prepareTimerEnds (h : Keeps s t) : Keeps s t.prepareTimerEnds := by
  unfold State.prepareTimerEnds
  split
  · exact h
  · exact (h.reach _).failChange

theorem faultTarget (h : Keeps s t) {reason : Result} : Keeps s (t.faultTarget reason) := by
  unfold State.faultTarget
  split
  · exact h
  · exact h.leaveSlotSync.faultSlot.failChange

theorem alignTimerEnds (h : Keeps s t) : Keeps s t.alignTimerEnds := by
  unfold State.alignTimerEnds
  split
  · exact (h.reach _).faultTarget
  · exact (h.reach _).stopRejoin
  · exact h

theorem settleTimerEnds (h : Keeps s t) : Keeps s t.settleTimerEnds := by
  unfold State.settleTimerEnds
  split
  · exact (h.reach _).faultTarget
  · exact (h.reach _).stopRejoin
  · exact h

/-! ## Power trips (R12) -/

theorem tripOutput (h : Keeps s t) : Keeps s (t.tripOutput i) := by
  unfold State.tripOutput
  repeat' split
  · exact h.goDark
  · exact h
  · exact h.failChange
  · exact h.failChange
  · exact h.outgoingOpened

theorem tripWork (h : Keeps s t) : Keeps s (t.tripWork i) := by
  have stopped {u : State} (hu : Keeps s u) :
      Keeps s (if (u.leaveTester i).testRunsOn i then (u.leaveTester i).stopTest else u.leaveTester i) := by
    split
    · exact hu.leaveTester.stopTest
    · exact hu.leaveTester
  unfold State.tripWork
  refine stopped ?_
  split
  · exact h.releaseWork
  · exact h

theorem tripSlot (h : Keeps s t) : Keeps s (t.tripSlot i) := by
  unfold State.tripSlot
  dsimp only
  split
  · exact (h.openSwitch.modSlot (by rfl)).faultSlot.modSupply (by rfl)
  · exact (h.openSwitch.modSlot (by rfl)).faultSlot

theorem trip (h : Keeps s t) : Keeps s (t.trip i) := by
  unfold State.trip
  dsimp only
  split
  · exact h.tripSlot.abandonPulse.tripWork.tripOutput.pushLast (by split <;> rfl)
  · exact h

/-! ## The tasks of an event (log 18) -/

theorem doTask (h : Keeps s t) {x : Task} (carries : s.BridgeLawful → x.Carries) : Keeps s (t.doTask x) := by
  unfold State.doTask
  split
  · exact h.turn
  · exact h.beginStep
  · exact h.stepEnds
  · exact h.prepareOutcome
  · exact h.restartOutcome
  · exact h.workProbeDone fun hs => carries hs _ rfl
  · exact h.outputProbeDone fun hs => carries hs _ rfl
  · exact h.grantTest
  · exact h.shedTest
  · exact h.handTester
  · exact h.payoutTest
  · exact h.fadeTest
  · exact h.bridgeEnd
  · exact h.targetCheck
  · exact h.heldCheck
  · exact h.startSelection

theorem cascade (h : Keeps s t) : Keeps s t.cascade :=
  run_induction (Keeps s)
    (fun u x rest waits hu => by
      have carries (hs : s.BridgeLawful) : ∀ y ∈ x :: rest, y.Carries :=
        waits ▸ (u.bridgeLawful_iff.mp (hu.bridge hs)).2.2
      exact (hu.todo fun hs y hy => carries hs y (List.mem_cons_of_mem _ hy)).doTask
        fun hs => carries hs x List.mem_cons_self)
    _ t h

/-! ## Pulses (R42) -/

theorem roleFrame (h : Keeps s t) {coincident : Bool} {role : Role} : Keeps s (t.roleFrame i coincident role) := by
  unfold State.roleFrame
  split
  · exact h
  · exact h.watchFrame
  · exact h.bridgeSwitch
  · exact h.changeAlign
  · exact h.changeSettle
  · exact h.rejoinAlign
  · exact h.rejoinSettle
  · exact h.placeOutput

theorem engineFrameIf (h : Keeps s t) {k : EngineNo} {taken coincident : Bool} :
    Keeps s (t.engineFrameIf k taken coincident) := by
  unfold State.engineFrameIf
  split
  · exact h.engineFrame.cascade
  · exact h

theorem framePulse (h : Keeps s t) : Keeps s (t.framePulse i) := by
  unfold State.framePulse
  dsimp only
  split
  · exact h.modTap.engineFrameIf.engineFrameIf.roleFrame
  · exact h.modTap.engineFrameIf.engineFrameIf

theorem roleLine (h : Keeps s t) {role : Role} : Keeps s (t.roleLine role) := by
  unfold State.roleLine
  split
  · exact h.watchLine
  · exact h.modChange
  · exact h.modHold
  · exact h

theorem engineLineIf (h : Keeps s t) {k : EngineNo} {taken opens : Bool} : Keeps s (t.engineLineIf k taken opens) := by
  unfold State.engineLineIf
  split
  · exact h.engineLine.cascade
  · exact h

theorem linePulse (h : Keeps s t) {opens : Bool} : Keeps s (t.linePulse i opens) := by
  unfold State.linePulse
  dsimp only
  split
  · exact h.modTap.engineLineIf.engineLineIf.roleLine
  · exact h.modTap.engineLineIf.engineLineIf

theorem lineEdge (h : Keeps s t) {e : LineEdge} : Keeps s (t.lineEdge e) := by
  rcases t.lineEdge_cases e with ⟨-, eq⟩ | ⟨-, eq⟩ <;> rw [eq]
  · exact h.modTap.linePulse
  · exact h.modTap

theorem frameEdge (h : Keeps s t) {e : FrameEdge} : Keeps s (t.frameEdge e) := by
  rcases t.frameEdge_cases e with ⟨-, -, eq⟩ | ⟨-, eq⟩ <;> rw [eq]
  · exact h.modTap.framePulse
  · exact h.modTap

end Keeps
end Sys2Proof.Machine

/-! What the requests store is in range, and every command keeps the laws. -/

namespace Sys2Proof.Machine

/-! ## What the requests store (R2, R72, R130, R133) -/

theorem clampStall_inRange (n : Nat) : clampStall n = 0 ∨ (60 ≤ clampStall n ∧ clampStall n ≤ 36000) := by
  unfold clampStall
  split
  · exact .inl rfl
  · exact .inr ⟨clamp_ge _ _ _, clamp_le (by decide) _⟩

theorem storeProfile_inRange {r : RawProfile} {p : Profile} (h : storeProfile r = some p) : p.InRange := by
  have inside {lo hi : Nat} (le : lo ≤ hi) (n : Nat) : lo ≤ clamp lo hi n ∧ clamp lo hi n ≤ hi :=
    ⟨clamp_ge _ _ _, clamp_le le _⟩
  unfold storeProfile at h
  split at h <;> cases h
  refine ⟨inside (by decide) _, inside (by decide) _, clamp_le (by decide) _, clamp_le (by decide) _,
    inside (by decide) _, clampStall_inRange _, fun c e => ?_⟩
  obtain ⟨drive, -, rfl⟩ := Option.map_eq_some_iff.mp e
  exact ⟨inside (by decide) _, inside (by decide) _, inside (by decide) _⟩

theorem storeOutput_inRange {r : RawOutput} {o : OutSettings} (h : storeOutput r = some o) : o.InRange := by
  unfold storeOutput at h
  dsimp only at h
  split at h <;> cases h
  next accepted =>
    obtain ⟨some_class, low_bits, ordered⟩ := not_or.mp accepted |>.imp id not_or.mp
    refine ⟨?_, clamp_ge _ _ _, not_lt.mp ordered, clamp_le (by decide) _, ⟨clamp_ge _ _ _, clamp_le (by decide) _⟩,
      clamp_ge _ _ _, clamp_le (by decide) _⟩
    have every : ∀ b : Byte, b ≠ 0 → ¬ 8 ≤ b.toNat → (b.getLsbD 0 || b.getLsbD 1 || b.getLsbD 2) = true := by decide
    exact every _ some_class low_bits

theorem storeCabinet_inRange {r : RawCabinet} {x : CoinSettings × Nat} (h : storeCabinet r = some x) :
    x.1.InRange ∧ 1 ≤ x.2 ∧ x.2 ≤ 15 := by
  have inside {lo hi : Nat} (le : lo ≤ hi) (n : Nat) : lo ≤ clamp lo hi n ∧ clamp lo hi n ≤ hi :=
    ⟨clamp_ge _ _ _, clamp_le le _⟩
  unfold storeCabinet at h
  split at h
  · dsimp only at h
    split at h <;> cases h
    next ordered =>
      exact ⟨⟨inside (by decide) _, inside (by decide) _, clamp_ge _ _ _, not_lt.mp ordered, clamp_le (by decide) _,
        inside (by decide) _, inside (by decide) _, inside (by decide) _⟩, inside (by decide) _⟩
  · cases h

/-- The lines of a list behind those already taken, each once, in the order of their first naming (R130). -/
def eachOnce (taken : List LineNo) (l : List LineNo) : List LineNo :=
  l.foldl (fun acc n => if acc.contains n then acc else acc ++ [n]) taken

theorem mem_eachOnce (n : LineNo) (l taken : List LineNo) : n ∈ eachOnce taken l ↔ n ∈ taken ∨ n ∈ l := by
  induction l generalizing taken with
  | nil => simp [eachOnce]
  | cons m l ih =>
    rw [show eachOnce taken (m :: l) = eachOnce (if taken.contains m then taken else taken ++ [m]) l from rfl, ih]
    split
    next named =>
      have named : m ∈ taken := by simpa using named
      constructor
      · rintro (h | h) <;> simp [h]
      · rintro (h | h)
        · exact .inl h
        · rcases List.mem_cons.mp h with rfl | h
          · exact .inl named
          · exact .inr h
    next => simp [or_assoc]

theorem eachOnce_nodup (l : List LineNo) {taken : List LineNo} (h : taken.Nodup) : (eachOnce taken l).Nodup := by
  induction l generalizing taken with
  | nil => exact h
  | cons m l ih =>
    refine ih ?_
    dsimp only
    split
    · exact h
    next absent => exact (List.nodup_append_comm.mp (List.nodup_cons.mpr ⟨by simpa using absent, h⟩))

theorem eachOnce_length_le (l taken : List LineNo) : (eachOnce taken l).length ≤ taken.length + l.length := by
  induction l generalizing taken with
  | nil => exact Nat.le_refl _
  | cons m l ih =>
    refine (ih _).trans ?_
    dsimp only
    split
    · simp
    · simp; omega

theorem storeChord_eq (r : RawChord) :
    storeChord r =
      if 1 ≤ r.count.toNat ∧ r.count.toNat ≤ 4 then
        (([r.line0, r.line1, r.line2, r.line3].take r.count.toNat).mapM lineOf).map fun l =>
          (eachOnce [] l, clamp 250 5000 r.hold.toNat)
      else none := rfl

theorem mapM_length {α β : Type} {f : α → Option β} {l : List α} {m : List β} (h : l.mapM f = some m) :
    m.length = l.length := by
  induction l generalizing m with
  | nil => simp at h; simp [← h]
  | cons a l ih =>
    simp only [List.mapM_cons, Option.bind_eq_bind, Option.bind_eq_some_iff] at h
    obtain ⟨b, -, m, hm, e⟩ := h
    cases e
    simp [ih hm]

theorem storeChord_inRange {r : RawChord} {lines : List LineNo} {time : Nat} (h : storeChord r = some (lines, time))
    (c : Controls) : Controls.InRange { c with chordLines := lines, holdTime := time } := by
  rw [storeChord_eq] at h
  split at h
  next count =>
    obtain ⟨l, read, e⟩ := Option.map_eq_some_iff.mp h
    cases e
    have named : l.length = r.count.toNat := by
      rw [mapM_length read]
      simp
      omega
    refine ⟨⟨clamp_ge _ _ _, clamp_le (by decide) _⟩, ?_, ?_, eachOnce_nodup _ List.nodup_nil⟩
    · obtain ⟨n, hn⟩ := List.exists_mem_of_length_pos (l := l) (by omega)
      exact List.length_pos_of_mem ((mem_eachOnce n l []).mpr (.inr hn))
    · have short : (eachOnce [] l).length ≤ 0 + l.length := eachOnce_length_le l []
      exact short.trans (by omega)
  next => cases h

theorem Controls.InRange.freshChord {c : Controls} (h : c.InRange) (now : Nat) : (c.freshChord now).InRange := by
  unfold Controls.freshChord
  split <;> exact h

/-! ## The Control Router -/

theorem Controls.InRange.chordChange {c : Controls} (h : c.InRange) (n : LineNo) (asserted : Bool) (now : Nat) :
    (c.chordChange n asserted now).InRange := by
  unfold Controls.chordChange
  repeat' split
  all_goals exact h

namespace Keeps

variable {s t : State} {i : SlotNo}

theorem menuNotice (h : Keeps s t) : Keeps s t.menuNotice := h.notice

theorem chordEnds (h : Keeps s t) : Keeps s t.chordEnds := by
  unfold State.chordEnds
  split
  · exact h
  · exact ((h.reach _).modControls (by exact id)).menuNotice

theorem panelNotice (h : Keeps s t) : Keeps s t.panelNotice := by
  unfold State.panelNotice
  split
  · exact h.notice
  · exact h

theorem panelChange (h : Keeps s t) {n : LineNo} {asserted : Bool} : Keeps s (t.panelChange n asserted) := by
  unfold State.panelChange
  split
  · exact h
  · exact (h.modControls fun chord => Controls.InRange.chordChange (c := t.controls.setPanel n asserted) chord _ _
      _).panelNotice

/-! ## Requests

A request is taken with a reply place free: `room` says so of a link that keeps its bounds. -/

section
variable (h : Keeps s t) (room : s.link.Bounded → t.link.hasPlace = true)
include h room

theorem refuse {kind tag : Byte} {r : Reason} : Keeps s (t.refuse kind tag r) := h.reply room

theorem takeStatus {tag : Byte} : Keeps s (t.takeStatus tag) := h.reply room

theorem takeNotify {tag set : Byte} : Keeps s (t.takeNotify tag set) := by
  unfold State.takeNotify
  split
  · exact h.refuse room
  · exact (h.reply room).modLink (fun ht => ht.shorten List.filter_sublist) rfl

theorem takeRestart {tag : Byte} : Keeps s (t.takeRestart tag) := (h.reply room).modLink (by exact id) rfl

theorem takeSetOutput {tag : Byte} {r : RawOutput} : Keeps s (t.takeSetOutput tag r) := by
  unfold State.takeSetOutput
  split
  · exact h.refuse room
  next set stored =>
    have set : Keeps s { t with settings := set } := by
      refine ⟨h.pending, h.now, h.balance, h.link, h.queues, h.bridge, fun hs => ?_, h.rx⟩
      obtain ⟨slots, -, rest⟩ := t.settingsInRange_iff.mp (h.settings hs)
      exact (State.settingsInRange_iff _).mpr ⟨slots, storeOutput_inRange stored, rest⟩
    exact set.reply room

theorem takeSetCabinet {tag : Byte} {r : RawCabinet} : Keeps s (t.takeSetCabinet tag r) := by
  unfold State.takeSetCabinet
  split
  · exact h.refuse room
  next set level stored =>
    have set : Keeps s ((t.modCoin fun c => { c with settings := set }).modSupply fun p =>
        { p with level := level }) := by
      refine ⟨h.pending, h.now, h.balance, h.link, h.queues, h.bridge, fun hs => ?_, h.rx⟩
      obtain ⟨coin, dip⟩ := storeCabinet_inRange stored
      obtain ⟨slots, out, -, -, rest⟩ := t.settingsInRange_iff.mp (h.settings hs)
      exact (State.settingsInRange_iff _).mpr ⟨slots, out, coin, dip, rest⟩
    exact (set.reply room).rejudge.rejudge

omit room in
theorem configure {p : Profile} (stored : p.InRange) : Keeps s (t.configure i p) := by
  unfold State.configure
  split
  · exact h.modSetup fun _ _ _ => stored
  · exact (h.slotUpdate (fun _ _ e => by cases e; exact stored) fun _ _ e => by cases e).setState

omit room in
theorem disable : Keeps s (t.disable i) :=
  (h.slotUpdate (fun _ _ e => by cases e) fun _ _ e => by cases e).setState

theorem takeSetSlot {tag slot flag : Byte} {p : RawProfile} : Keeps s (t.takeSetSlot tag slot flag p) := by
  unfold State.takeSetSlot
  repeat' split
  · exact h.refuse room
  · exact h.refuse room
  · exact (h.reply room).disable
  · exact h.refuse room
  · exact h.refuse room
  · exact h.refuse room
  next stored _ => exact (h.reply room).configure (storeProfile_inRange stored)

theorem takeQuerySlot {tag slot : Byte} : Keeps s (t.takeQuerySlot tag slot) := by
  unfold State.takeQuerySlot
  split
  · exact h.refuse room
  · exact h.reply room

theorem takeClearDip {tag : Byte} : Keeps s (t.takeClearDip tag) := by
  unfold State.takeClearDip
  split
  · refine (((h.modSupply (by rfl)).supplyNotice.reply fun hs => ?_).push (by rfl))
    rw [Link.hasPlace, State.supplyNotice, State.notice_placesUsed]
    exact room hs
  · exact h.reply room

theorem takeSetTrim {tag slot level : Byte} : Keeps s (t.takeSetTrim tag slot level) := by
  have trimmed (n : Nat) : clamp 0 62 n ≤ 62 := clamp_le (by decide) n
  unfold State.takeSetTrim
  dsimp only
  repeat' split
  · exact h.refuse room
  · exact h.refuse room
  · exact (h.modLevels (fun ht => ⟨fun n e => by cases e; exact trimmed _, ht.2⟩) (by rfl)).reply room
  · exact (h.storeLevel fun _ => trimmed _).reply room

theorem takeSetMap {tag slot : Byte} {sources : Vector Byte 24} : Keeps s (t.takeSetMap tag slot sources) := by
  unfold State.takeSetMap
  dsimp only
  repeat' split
  · exact h.refuse room
  · exact h.refuse room
  · exact h.refuse room
  · exact (h.modOut (by rfl)).reply room
  · exact h.storeMap.reply room

theorem takeSetChord {tag : Byte} {r : RawChord} : Keeps s (t.takeSetChord tag r) := by
  unfold State.takeSetChord
  split
  · exact h.refuse room
  next lines time stored =>
    exact (h.modControls fun _ => (storeChord_inRange stored t.controls).freshChord t.now).reply room

theorem takeCapture {tag setting : Byte} : Keeps s (t.takeCapture tag setting) := by
  unfold State.takeCapture
  dsimp only
  repeat' split
  · exact h.reply room
  · exact ((h.modControls (by exact id)).reply room).push (by rfl)
  · exact ((h.modControls (by exact id)).reply room).push (by rfl)
  · exact h.refuse room

theorem takeSlotWork {tag slot count : Byte} {steps : Vector RawStep 4} :
    Keeps s (t.takeSlotWork tag slot count steps) := by
  unfold State.takeSlotWork
  dsimp only
  repeat' split
  · exact h.refuse room
  · exact h.refuse room
  · exact h.refuse room
  · exact h.refuse room
  · exact h.refuse room
  next full => exact ((h.reply room).modQueue fun _ => by
      rw [List.length_append]
      exact not_le.mp full).push (by rfl)

theorem takeAbortWork {tag slot : Byte} : Keeps s (t.takeAbortWork tag slot) := by
  unfold State.takeAbortWork
  split
  · exact h.refuse room
  · exact (h.reply room).abortWork

omit room in
theorem acceptSelect {sel : Selection} : Keeps s (t.acceptSelect sel) := by
  unfold State.acceptSelect
  repeat' split
  · exact h.startChangeover
  · exact h.retarget
  · exact h.retarget
  · exact h.retarget
  · exact h.retarget
  · exact h.storeReselect
  · exact h.storeReselect

theorem takeSelect {tag slot : Byte} : Keeps s (t.takeSelect tag slot) := by
  unfold State.takeSelect
  repeat' split
  · exact h.refuse room
  · exact h.refuse room
  · exact h.refuse room
  · exact h.reply room
  · exact (h.reply room).acceptSelect

omit room in
theorem cancelReselect {c : Change} : Keeps s (t.cancelReselect c) := by
  unfold State.cancelReselect
  split
  · exact h
  · exact h.modChange.completeSelect

theorem takeCancel {tag : Byte} : Keeps s (t.takeCancel tag) := by
  unfold State.takeCancel
  repeat' split
  · exact h.refuse room
  · exact (h.reply room).failChange
  · exact (h.reply room).failChange
  · exact (h.reply room).failChange
  · exact (h.reply room).failChange
  · exact (h.reply room).cancelReselect
  · exact (h.reply room).cancelReselect

theorem takeQueryOutput {tag : Byte} : Keeps s (t.takeQueryOutput tag) := h.reply room

omit room in
theorem creditFollows {before : Nat} {cause : CoinCause} : Keeps s (t.creditFollows before cause) := by
  rcases t.creditFollows_cases before cause with ⟨-, e⟩ | ⟨-, e⟩ <;> rw [e]
  · exact h
  · exact h.payoutTest.coinNotice

theorem takeCredit {tag action n : Byte} : Keeps s (t.takeCredit tag action n) := by
  unfold State.takeCredit
  dsimp only
  repeat' split
  · exact ((h.modCoin (fun ht => ht.addCredit _) (by rfl)).reply room).creditFollows
  · exact h.reply room
  · exact ((h.modCoin (fun ht => ht.clearCredit) (by rfl)).reply room).creditFollows
  · exact h.refuse room

theorem takeQueryCoin {tag : Byte} : Keeps s (t.takeQueryCoin tag) := h.reply room

theorem takeQueryTest {tag part : Byte} : Keeps s (t.takeQueryTest tag part) := by
  unfold State.takeQueryTest
  split
  · exact h.refuse room
  · exact h.reply room

theorem takeRequest {r : Request} : Keeps s (t.takeRequest r) := by
  unfold State.takeRequest
  split
  · exact h.takeStatus room
  · exact h.takeNotify room
  · exact h.takeRestart room
  · exact h.takeSetOutput room
  · exact h.takeSetCabinet room
  · exact h.takeSetSlot room
  · exact h.takeSetMap room
  · exact h.takeSetTrim room
  · exact h.takeSetChord room
  · exact h.takeSlotWork room
  · exact h.takeAbortWork room
  · exact h.takeSelect room
  · exact h.takeCancel room
  · exact h.takeCapture room
  · exact h.takeCredit room
  · exact h.takeQuerySlot room
  · exact h.takeQueryOutput room
  · exact h.takeQueryCoin room
  · exact h.takeQueryTest room
  · exact h.takeClearDip room
  · exact h.refuse room
  · exact h.refuse room

theorem handle {r : Request} : Keeps s (t.handle r) := (h.takeRequest room).cascade

end

/-! ## The Controller Link (R172 to R177) -/

theorem offer (h : Keeps s t) {r : Request} : Keeps s (t.offer r) := by
  unfold State.offer
  split
  next ready =>
    unfold Link.ready at ready
    exact h.handle fun _ => (Bool.and_eq_true_iff.mp ready).2
  · exact h.modLink (by exact id) rfl

theorem byteEnds (h : Keeps s t) : Keeps s t.byteEnds := h.modLink (by exact id) rfl

theorem releaseHeld (h : Keeps s t) (room : s.link.Bounded → t.link.hasPlace = true) : Keeps s t.releaseHeld := by
  unfold State.releaseHeld
  split
  next held =>
    have dropped {m : Message} {rest : List Message} (e : t.link.held = m :: rest) :
        Keeps s (t.modLink fun l => { l with held := rest, txq := l.txq ++ [m] }) :=
      h.linkUpdate (fun hs =>
        have ⟨group, bounded⟩ := (h.link hs).dropHeld e
        bounded.enqueue group (room hs)) rfl
    exact dropped held
  · exact h

theorem queueHeld (h : Keeps s t) : Keeps s t.queueHeld := by
  unfold State.queueHeld
  split
  next room => exact h.releaseHeld fun _ => room
  · exact h

end Keeps

/-! ## The receive buffer (R173, R174) -/

/-- What `Keeps` says but for the receive buffer, where bytes arrive and the framer takes them. -/
structure KeepsLaws (s t : State) : Prop where
  pending : t.pending = s.pending
  now : s.now ≤ t.now
  balance : s.coin.Balanced → t.coin.Balanced
  link : s.link.Bounded → t.link.Bounded
  queues : s.QueuesBounded → t.QueuesBounded
  bridge : s.BridgeLawful → t.BridgeLawful
  settings : s.SettingsInRange → t.SettingsInRange

section
variable {s t u : State}

theorem Keeps.laws (h : Keeps s t) : KeepsLaws s t :=
  ⟨h.pending, h.now, h.balance, h.link, h.queues, h.bridge, h.settings⟩

namespace KeepsLaws

protected theorem trans (h : KeepsLaws s t) (h' : KeepsLaws t u) : KeepsLaws s u :=
  ⟨h'.pending.trans h.pending, h.now.trans h'.now, h'.balance ∘ h.balance, h'.link ∘ h.link, h'.queues ∘ h.queues,
    h'.bridge ∘ h.bridge, h'.settings ∘ h.settings⟩

theorem modLink (h : KeepsLaws s t) {f : Link → Link} (link : t.link.Bounded → (f t.link).Bounded) :
    KeepsLaws s (t.modLink f) :=
  ⟨h.pending, h.now, h.balance, link ∘ h.link, h.queues, h.bridge, h.settings⟩

theorem byteArrives (h : KeepsLaws s t) {b : Byte} : KeepsLaws s (t.byteArrives b) := h.modLink fun ht => ht.keep b _

theorem offer (h : KeepsLaws s t) {r : Request} : KeepsLaws s (t.offer r) := h.trans (Keeps.refl t).offer.laws

theorem drain (h : KeepsLaws s t) (n : Nat) : KeepsLaws s (drain n t) := by
  induction n generalizing t with
  | zero => exact h
  | succ n ih =>
    have taken {b : RxByte} {rest : List RxByte} (e : t.link.rx = b :: rest) :
        KeepsLaws s (t.modLink fun l => { l with rx := rest }) := h.modLink fun ht => ht.takeByte e
    unfold Machine.drain
    dsimp only
    repeat' split
    · exact h
    · exact ih ((taken ‹_›).modLink (by exact id))
    · exact ih ((taken ‹_›).modLink (by exact id))
    · exact ih ((taken ‹_›).modLink (by exact id)).offer
    · exact h

theorem drainAll (h : KeepsLaws s t) : KeepsLaws s t.drainAll := h.drain _

theorem bytesArrive (h : KeepsLaws s t) {bs : List Byte} : KeepsLaws s (t.bytesArrive bs) := by
  induction bs generalizing t with
  | nil => exact h
  | cons b bs ih => exact ih h.byteArrives.drainAll

end KeepsLaws

namespace Keeps

theorem submit (h : Keeps s t) {r : Request} : KeepsLaws s (t.submit r) := by
  rcases t.submit_cases r with ⟨-, e⟩ | ⟨-, e⟩ <;> rw [e]
  · exact h.byteEnds.offer.laws
  · exact h.laws.bytesArrive

theorem placeFreed (h : Keeps s t) (room : s.link.Bounded → t.link.hasPlace = true) : KeepsLaws s t.placeFreed := by
  unfold State.placeFreed
  repeat' split
  · exact (h.releaseHeld room).laws
  · have freed : Keeps s (t.modLink fun l => { l with waiting := none }) := h.modLink (by exact id) rfl
    exact (freed.handle room).laws.drainAll
  · exact h.laws

theorem beginMessage (h : Keeps s t) : KeepsLaws s t.beginMessage := by
  unfold State.beginMessage
  dsimp only
  split
  next m rest _ waits =>
    have begun : Keeps s (t.modLink fun l => { l with sending := some m, txq := rest }) :=
      h.modLink (fun ht => ht.shorten (waits ▸ List.sublist_cons_self m rest)) rfl
    split
    next group => exact begun.placeFreed fun hs => Link.hasPlace_of_head (h.link hs) waits group rfl
    · exact begun.laws
  · exact h.laws

end Keeps

theorem KeepsLaws.finish (h : KeepsLaws s t) : KeepsLaws s t.finish := h.trans (Keeps.refl t).cascade.beginMessage

end

end Sys2Proof.Machine

/-! The resets meet the laws, every command keeps them, and the statements that follow. -/

namespace Sys2Proof.Machine

/-! ## The values after a hard reset -/

theorem CoinUnit.reset_balanced : CoinUnit.reset.Balanced := by
  unfold CoinUnit.Balanced
  decide

theorem OutSettings.reset_inRange : OutSettings.reset.InRange := by
  unfold OutSettings.InRange
  decide

theorem CoinSettings.reset_inRange : CoinUnit.reset.settings.InRange := by
  unfold CoinSettings.InRange
  decide

theorem Controls.reset_inRange : Controls.reset.InRange := by
  unfold Controls.InRange
  decide

theorem Output.reset_bridgeInRange : Output.reset.BridgeInRange := by
  unfold Output.BridgeInRange BridgeTiming.InRange
  decide

theorem Output.reset_levelsInRange : Output.reset.LevelsInRange := ⟨by simp [Output.reset], by decide, by decide⟩

/-- A link without bytes, held messages or event notices, and with START-UP at most, keeps its bounds. -/
theorem Link.bounded_of_startUp {l : Link} {c : Byte} (rx : l.rx = []) (held : l.held = [])
    (txq : l.txq = [] ∨ l.txq = [Message.startUp c]) : l.Bounded := by
  unfold Link.Bounded Link.placesUsed
  rw [rx, held]
  rcases txq with e | e <;> rw [e]
  · exact ⟨by decide, by decide, by decide, by simp⟩
  · exact ⟨by decide, by simp [Config.groupPlaces], by simp [eventKeys, Message.startUp], by simp⟩

@[simp] theorem State.reset_slot (i : SlotNo) : State.reset.slot i = Slot.reset := by
  simp [State.slot, State.reset]

@[simp] theorem State.reset_queue (i : SlotNo) : State.reset.queue i = Queue.reset := by
  simp [State.queue, State.reset]

theorem Slot.reset_profileInRange : Slot.reset.ProfileInRange := by rintro su ⟨⟩

theorem Slot.reset_probeClamped : Slot.reset.ProbeClamped := by rintro p ⟨⟩

theorem State.reset_queuesBounded : State.reset.QueuesBounded := fun i => by
  rw [State.reset_queue]
  exact Nat.zero_le _

theorem State.reset_bridgeLawful : State.reset.BridgeLawful :=
  (State.bridgeLawful_iff _).mpr
    ⟨Output.reset_bridgeInRange, fun i => by rw [State.reset_slot]; exact Slot.reset_probeClamped, by simp [State.reset]⟩

theorem State.reset_settingsInRange : State.reset.SettingsInRange :=
  (State.settingsInRange_iff _).mpr
    ⟨fun i => by rw [State.reset_slot]; exact Slot.reset_profileInRange, OutSettings.reset_inRange,
      CoinSettings.reset_inRange, by decide, Controls.reset_inRange, Output.reset_levelsInRange⟩

theorem State.reset_outputLawful : State.reset.OutputLawful := by
  simp [State.OutputLawful, State.reset, Output.reset, Mode.hasSource, Hold.none]

/-! ## RESTART -/

theorem mapEight_getElem {α β : Type} (f : α → β) (v : Vector α 8) : ∀ i : SlotNo, (mapEight f v)[i.val] = f v[i.val]
  | 0 => rfl | 1 => rfl | 2 => rfl | 3 => rfl | 4 => rfl | 5 => rfl | 6 => rfl | 7 => rfl

/-- A RESTART keeps a slot's setup and clears its last probe (R24). -/
theorem Slot.restarted_setup_lastProbe (sl : Slot) (now : Nat) :
    (sl.restarted now).setup = sl.setup ∧ (sl.restarted now).lastProbe = none := by
  unfold Slot.restarted
  dsimp only
  repeat' split
  all_goals exact ⟨rfl, rfl⟩

theorem CoinUnit.Balanced.countRestartJam {c : CoinUnit} (h : c.Balanced) (x : CoinInput) :
    (c.countRestartJam x).Balanced := by
  unfold CoinUnit.countRestartJam
  dsimp only
  split
  · exact (h.count x).2.1
  · exact h

@[simp] theorem CoinUnit.countRestartJam_settings (c : CoinUnit) (x : CoinInput) :
    (c.countRestartJam x).settings = c.settings := by
  unfold CoinUnit.countRestartJam
  dsimp only
  split <;> rfl

theorem CoinUnit.Balanced.restarted {c : CoinUnit} (h : c.Balanced) (now : Nat) : (c.restarted now).Balanced :=
  (h.countRestartJam .a).countRestartJam .b

@[simp] theorem CoinUnit.restarted_settings (c : CoinUnit) (now : Nat) : (c.restarted now).settings = c.settings := by
  simp [CoinUnit.restarted]

namespace Keeps

variable {s t : State}

theorem restartJamNotice (h : Keeps s t) {x : CoinInput} : Keeps s (t.restartJamNotice x) := by
  unfold State.restartJamNotice
  split
  · exact h.coinNotice
  · exact h

theorem restarted (h : Keeps s t) : KeepsLaws s t.restarted := by
  unfold State.restarted
  refine KeepsLaws.trans ?_ (restartJamNotice (restartJamNotice (Keeps.refl _))).laws
  refine ⟨h.pending, h.now, fun hs => (h.balance hs).restarted _, fun _ => ?_, fun _ i => ?_,
    fun hs => (State.bridgeLawful_iff _).mpr ⟨?_, fun i p e => ?_, by simp⟩, fun hs => ?_⟩
  · exact Link.bounded_of_startUp rfl rfl (.inr rfl)
  · simp [State.queue, Queue.reset]
  · have ⟨timing, _, cls⟩ := (h.bridge hs).bridge
    exact ⟨timing, timing, cls⟩
  · rw [State.slot, mapEight_getElem, (Slot.restarted_setup_lastProbe _ _).2] at e
    cases e
  · obtain ⟨slots, out, coin, supply, controls, -⟩ := t.settingsInRange_iff.mp (h.settings hs)
    refine (State.settingsInRange_iff _).mpr ⟨fun i su e => ?_, out, by simpa using coin, supply, ?_, ?_⟩
    · rw [State.slot, mapEight_getElem, (Slot.restarted_setup_lastProbe _ _).1] at e
      exact slots i su e
    · exact Controls.InRange.freshChord (c := { t.controls with capture := false }) controls _
    · exact Output.reset_levelsInRange

/-! ## Hard reset -/

theorem hardReset (h : Keeps s t) {cause : ResetCause} : KeepsLaws s (t.hardReset cause) where
  pending := h.pending
  now := h.now
  balance := fun _ => CoinUnit.reset_balanced
  link := fun _ => Link.bounded_of_startUp rfl rfl (.inr rfl)
  queues := fun _ => State.reset_queuesBounded
  bridge := fun _ => State.reset_bridgeLawful
  settings := fun _ => by
    obtain ⟨slots, out, coin, supply, controls, levels⟩ := State.reset.settingsInRange_iff.mp State.reset_settingsInRange
    exact (State.settingsInRange_iff _).mpr ⟨slots, out, coin, supply,
      Controls.InRange.freshChord (c := { Controls.reset with panel := t.controls.panel }) controls _, levels⟩

theorem holdReset (h : Keeps s t) : Keeps s t.holdReset := by
  unfold State.holdReset
  refine modLink ?_ (by exact id) rfl
  refine ⟨h.pending, h.now, h.balance, h.link, h.queues, fun hs => ?_, fun hs => ?_, h.rx⟩
  · obtain ⟨bridge, slots, todo⟩ := t.bridgeLawful_iff.mp (h.bridge hs)
    refine (State.bridgeLawful_iff _).mpr ⟨bridge, fun i p e => ?_, todo⟩
    rw [State.slot, mapEight_getElem] at e
    exact slots i p e
  · obtain ⟨slots, rest⟩ := t.settingsInRange_iff.mp (h.settings hs)
    refine (State.settingsInRange_iff _).mpr ⟨fun i su e => ?_, rest⟩
    rw [State.slot, mapEight_getElem] at e
    exact slots i su e

/-! ## The pins -/

theorem pinPanel (h : Keeps s t) {n : LineNo} {asserted : Bool} : Keeps s (t.pinPanel n asserted) := h.modControls (by exact id)

theorem pinCoin (h : Keeps s t) {x : CoinInput} {closed : Bool} : Keeps s (t.pinCoin x closed) :=
  h.modCoin (fun ht => ht.setInput _ _) (by simp)

theorem setSense (h : Keeps s t) {i : SlotNo} {d : CoinDrive} {high : Bool} : Keeps s (t.setSense i d high) := h.others

theorem senseChange (h : Keeps s t) {i : SlotNo} {d : CoinDrive} {high : Bool} : Keeps s (t.senseChange i d high) :=
  h.setSense.push (by rfl)

end Keeps

/-! ## Commands -/

/-- A command leaves a next state, with the laws kept from the moment its time has passed. -/
def Taken (dt : Nat) (s : State) (o : Outcome) : Prop := ∃ t, o = .next t ∧ KeepsLaws (s.advance dt) t

theorem live_taken_laws {dt : Nat} {effect : State → State} {s : State}
    (h : KeepsLaws (s.advance dt) (effect (s.advance dt))) : Taken dt s (live dt effect s) := by
  unfold live
  dsimp only
  split
  · exact ⟨_, rfl, (Keeps.refl _).laws⟩
  · exact ⟨_, rfl, h.finish⟩

theorem live_taken {dt : Nat} {effect : State → State} {s : State}
    (h : Keeps (s.advance dt) (effect (s.advance dt))) : Taken dt s (live dt effect s) := live_taken_laws h.laws

theorem livePin_taken {dt : Nat} {pin effect : State → State} {s : State}
    (hp : Keeps (s.advance dt) (pin (s.advance dt))) (h : Keeps (s.advance dt) (effect (s.advance dt))) :
    Taken dt s (livePin dt pin effect s) := by
  unfold livePin
  dsimp only
  split
  · exact ⟨_, rfl, hp.laws⟩
  · exact ⟨_, rfl, h.laws.finish⟩

theorem request_taken (dt : Nat) (tag : Byte) (op : ReqOp) (s : State) : Taken dt s (request dt tag op s) :=
  live_taken_laws (Keeps.refl _).submit

/-- Every command is taken. -/
theorem exec_taken (c : Instr) (s : State) : Taken c.dt s (exec c s) := by
  have now := Keeps.refl (s.advance c.dt)
  cases c
  case resetLineHeld dt => exact ⟨_, rfl, now.holdReset.laws⟩
  case hardReset dt cause => exact ⟨_, rfl, now.hardReset.finish⟩
  case restartTaken dt =>
    unfold exec execRestartTaken
    refine live_taken_laws ?_
    split
    · exact now.restarted
    · exact now.laws
  case messageSent dt =>
    unfold exec execMessageSent
    refine live_taken_laws ?_
    split
    · exact now.restarted
    · exact (now.modLink (by exact id) rfl).laws
  case receiveByte dt b =>
    unfold exec execReceiveByte
    exact live_taken_laws now.laws.byteArrives.drainAll
  case heldCompletionQueued dt =>
    unfold exec execHeldCompletionQueued
    exact live_taken now.queueHeld
  case pauseEnd dt i =>
    unfold exec execPauseEnd
    refine live_taken ?_
    split
    · exact now
    · exact ((now.reach _).modQueue (by exact id)).push (by rfl)
  case warmUpEnd dt i =>
    unfold exec execWarmUpEnd
    refine live_taken ?_
    split
    · exact now
    · exact (now.reach _).warmUpEnds
  case restTimerEnd dt i =>
    unfold exec execRestTimerEnd
    refine live_taken ?_
    split
    · exact now
    · exact (now.reach _).restEnds
  case powerTrip dt i =>
    unfold exec execPowerTrip
    exact live_taken now.trip
  case supplyDip dt =>
    unfold exec execSupplyDip
    refine live_taken ?_
    split
    · exact now
    · exact (now.modSupply (by rfl)).supplyNotice
  case linePulse dt e =>
    unfold exec execLinePulse
    exact livePin_taken now.modTap now.lineEdge
  case framePulse dt e =>
    unfold exec execFramePulse
    exact livePin_taken now.modTap now.frameEdge
  case pulseLevelWindowEnd dt i lineLow frameLow =>
    unfold exec execPulseLevelWindowEnd
    exact live_taken now.modTap
  case probeFrameWatchEnd dt k =>
    unfold exec execProbeFrameWatchEnd
    exact live_taken now.frameWatchEnds
  case linePeriodOverflow dt k =>
    unfold exec execLinePeriodOverflow
    exact live_taken now.lineOverflows
  case bridgeFrameStart dt =>
    unfold exec execBridgeFrameStart
    exact live_taken (now.reach _).frameStarts.reclassFrame
  case audioStep dt =>
    unfold exec execAudioStep
    refine live_taken ?_
    exact (now.modLevels (fun ⟨staged, gain, target⟩ => ⟨staged, stepGain_le gain target, target⟩) (by rfl)).push (by rfl)
  case watchFrameTimerEnd dt =>
    unfold exec execWatchFrameTimerEnd
    exact live_taken now.watchTimerEnds
  case holdTimerExpiry dt =>
    unfold exec execHoldTimerExpiry
    exact live_taken now.holdTimerEnds
  case bridgeStageTimerEnd dt =>
    unfold exec execBridgeStageTimerEnd
    exact live_taken now.bridgeTimerEnds
  case prepareTimeout dt =>
    unfold exec execPrepareTimeout
    exact live_taken now.prepareTimerEnds
  case classSettleDeadline dt =>
    unfold exec execClassSettleDeadline
    exact live_taken (now.reach _).reclassDeadline
  case alignTimeout dt =>
    unfold exec execAlignTimeout
    exact live_taken now.alignTimerEnds
  case settleFrameTimerEnd dt =>
    unfold exec execSettleFrameTimerEnd
    exact live_taken now.settleTimerEnds
  case panelChange dt n asserted =>
    unfold exec execPanelChange
    exact livePin_taken now.pinPanel now.panelChange
  case chordHoldTimerEnd dt =>
    unfold exec execChordHoldTimerEnd
    exact live_taken now.chordEnds
  case coinSwitchChange dt x closed =>
    unfold exec execCoinSwitchChange
    exact livePin_taken now.pinCoin now.coinSwitch
  case coinPulseMaximum dt x =>
    unfold exec execCoinPulseMaximum
    exact live_taken now.coinMaximum
  case lockoutSenseChange dt i d high =>
    unfold exec execLockoutSenseChange
    exact livePin_taken now.setSense now.senseChange
  case payoutOnTimeEnd dt =>
    unfold exec execPayoutOnTimeEnd
    refine live_taken ?_
    repeat' split
    · exact (now.reach _).pulseOnEnds
    · exact now
    · exact now
  case payoutOffTimeEnd dt =>
    unfold exec execPayoutOffTimeEnd
    refine live_taken ?_
    repeat' split
    · exact now
    · exact (now.reach _).pulseOffEnds
    · exact now
  case meterOnEnd dt m =>
    unfold exec execMeterOnEnd
    refine live_taken ?_
    dsimp only
    split
    · exact (now.reach _).modCoin (fun ht => ht.setMeter _ _) (by simp)
    · exact now
  case meterOffEnd dt m =>
    unfold exec execMeterOffEnd
    refine live_taken ?_
    dsimp only
    split
    · exact (now.reach _).modCoin (fun ht => ht.setMeter _ _) (by simp)
    · exact now
  case harnessPatternEnd dt senses =>
    unfold exec execHarnessPatternEnd
    refine live_taken ?_
    split
    · exact now
    · exact (now.reach _).patternEnds
  case gridPointSample dt red green blue =>
    unfold exec execGridPointSample
    exact live_taken now.gridSample
  all_goals exact request_taken _ _ _ _

/-- A step keeps each law: it runs one command, or none. -/
theorem step_keeps {s t : State} (h : step s = .next t) :
    t = s ∨ ∃ c rest, s.pending = c :: rest ∧ KeepsLaws (State.advance { s with pending := rest } c.dt) t := by
  unfold step at h
  cases e : s.pending with
  | nil =>
    rw [e] at h
    cases h
    exact .inl rfl
  | cons c rest =>
    rw [e] at h
    obtain ⟨u, eq, kept⟩ := exec_taken c { s with pending := rest }
    rw [show exec c { s with pending := rest } = .next t from h] at eq
    cases eq
    exact .inr ⟨c, rest, rfl, kept⟩

/-! ## The statements -/

/-- Settles O4: the balance is one of the laws that every operation keeps. -/
theorem stepKeepsBankBalance : Obligations.StepKeepsBankBalance := by
  intro s t hs h
  rcases step_keeps h with rfl | ⟨c, rest, -, kept⟩
  · exact hs
  · exact kept.balance hs

/-- Settles O5: the bounds of the link are one of the laws that every operation keeps. -/
theorem stepKeepsLinkBounds : Obligations.StepKeepsLinkBounds := by
  intro s t hs h
  rcases step_keeps h with rfl | ⟨c, rest, -, kept⟩
  · exact hs
  · exact kept.link hs

/-- Settles O7: the ranges of the bridge and of the probe records are one of the laws that every operation keeps. -/
theorem stepKeepsBridgeLaws : Obligations.StepKeepsBridgeLaws := by
  intro s t hs h
  rcases step_keeps h with rfl | ⟨c, rest, -, kept⟩
  · exact hs
  · exact kept.bridge hs

/-- Settles O8: the bound of the queues is one of the laws that every operation keeps. -/
theorem stepKeepsQueueBounds : Obligations.StepKeepsQueueBounds := by
  intro s t hs h
  rcases step_keeps h with rfl | ⟨c, rest, -, kept⟩
  · exact hs
  · exact kept.queues hs

/-- Settles O9: the ranges of the settings are one of the laws that every operation keeps. -/
theorem stepKeepsSettingsRanges : Obligations.StepKeepsSettingsRanges := by
  intro s t hs h
  rcases step_keeps h with rfl | ⟨c, rest, -, kept⟩
  · exact hs
  · exact kept.settings hs

/-- Settles O2: every command is taken, from the moment its time has passed. -/
theorem everyCommandLeavesNextState : Obligations.EveryCommandLeavesNextState := by
  intro c s
  obtain ⟨t, next, kept⟩ := exec_taken c s
  exact ⟨t, next, kept.pending, kept.now⟩

/-- Settles O3. -/
theorem lawsHoldAtReset : Obligations.LawsHoldAtReset :=
  ⟨CoinUnit.reset_balanced, Link.bounded_of_startUp (c := 0) rfl rfl (.inl rfl), State.reset_outputLawful,
    State.reset_bridgeLawful, State.reset_queuesBounded, State.reset_settingsInRange⟩

/-- Settles O1, by the two cases of the queue. -/
theorem stepRunsFrontCommand : Obligations.StepRunsFrontCommand := by
  constructor
  · intro s c rest e
    rw [step, e]
  · intro s e
    rw [step, e]

end Sys2Proof.Machine

/-! The laws of the output record and the changeover record, one mode at a time, and that every step keeps them. -/

namespace Sys2Proof.Machine

/-! ## The laws by mode (R66, R88) -/

/-- The laws in DARK. -/
structure State.IsDark (s : State) : Prop where
  chg : s.chg = none
  mode : s.out.mode = .dark
  source : s.out.source = none
  watch : s.out.watch.timer = none
  timer : s.out.hold.timer = none
  form : s.out.hold.form = none
  rejoin : s.out.hold.rejoin = none
  blanked : s.out.sync = .bridge → s.out.blanked = true

/-- The laws in SHOWING, with the slot shown. -/
structure State.IsShowing (s : State) (i : SlotNo) : Prop where
  chg : s.chg = none
  mode : s.out.mode = .showing
  source : s.out.source = some i
  sync : s.out.sync = .slot i
  timer : s.out.hold.timer = none
  form : s.out.hold.form = none
  rejoin : s.out.hold.rejoin = none

/-- The laws in HOLDING, with the slot held. -/
structure State.IsHolding (s : State) (i : SlotNo) : Prop where
  chg : s.chg = none
  mode : s.out.mode = .holding
  source : s.out.source = some i
  watch : s.out.watch.timer = none
  sync : s.out.hold.rejoin = some .settle → s.out.sync = .slot i
  blanked : s.out.sync = .bridge → s.out.blanked = true

/-- The laws in CHANGING, but for the sync source of SETTLE. -/
structure State.IsChanging (s : State) : Prop where
  chg : s.chg.isSome = true
  mode : s.out.mode = .changing
  source : s.out.source = none
  watch : s.out.watch.timer = none
  timer : s.out.hold.timer = none
  form : s.out.hold.form = none
  rejoin : s.out.hold.rejoin = none
  blanked : s.out.sync = .bridge → s.out.blanked = true

/-- In SETTLE the sync source is the target (R101). -/
def State.SettleSync (s : State) : Prop :=
  ∀ c i, s.chg = some c → c.stage = .settle → c.toSlot = some i → s.out.sync = .slot i

theorem State.IsDark.lawful {s : State} (h : s.IsDark) : s.OutputLawful := by
  obtain ⟨chg, mode, source, watch, timer, form, rejoin, blanked⟩ := h
  simpa [State.OutputLawful, Mode.hasSource, chg, mode, source, watch, timer, form, rejoin] using blanked

theorem State.IsShowing.lawful {s : State} {i : SlotNo} (h : s.IsShowing i) : s.OutputLawful := by
  obtain ⟨chg, mode, source, sync, timer, form, rejoin⟩ := h
  simp [State.OutputLawful, Mode.hasSource, chg, mode, source, sync, timer, form, rejoin]

theorem State.IsHolding.lawful {s : State} {i : SlotNo} (h : s.IsHolding i) : s.OutputLawful := by
  obtain ⟨chg, mode, source, watch, sync, blanked⟩ := h
  simpa [State.OutputLawful, Mode.hasSource, chg, mode, source, watch] using ⟨sync, blanked⟩

theorem State.IsChanging.lawful {s : State} (h : s.IsChanging) (settle : s.SettleSync) : s.OutputLawful := by
  obtain ⟨chg, mode, source, watch, timer, form, rejoin, blanked⟩ := h
  simpa [State.OutputLawful, Mode.hasSource, chg, mode, source, watch, timer, form, rejoin] using ⟨settle, blanked⟩

theorem State.IsDark.same {s t : State} (h : s.IsDark) (chg : t.chg = s.chg) (out : t.out = s.out) : t.IsDark := by
  obtain ⟨c, mode, source, watch, timer, form, rejoin, blanked⟩ := h
  rw [← chg] at c
  rw [← out] at mode source watch timer form rejoin blanked
  exact ⟨c, mode, source, watch, timer, form, rejoin, blanked⟩

/-- A lawful state is one of the four. -/
theorem State.outputLawful_cases {s : State} (h : s.OutputLawful) :
    s.IsDark ∨ (∃ i, s.IsShowing i) ∨ (∃ i, s.IsHolding i) ∨ (s.IsChanging ∧ s.SettleSync) := by
  obtain ⟨chg, source, watch, timer, form, rejoin, settle, held, shown, blanked⟩ := h
  have noneOf {α : Type} {o : Option α} (h : o.isSome = true → False) : o = none := Option.not_isSome_iff_eq_none.mp h
  cases mode : s.out.mode with
  | dark =>
    simp only [mode, Mode.hasSource, reduceCtorEq, decide_false, Option.isSome_eq_false_iff,
      Option.isNone_iff_eq_none] at chg source watch timer form rejoin
    exact .inl ⟨chg, mode, source, noneOf watch, noneOf timer, noneOf form, noneOf rejoin, blanked⟩
  | showing =>
    simp only [mode, Mode.hasSource, reduceCtorEq, decide_false, Option.isSome_eq_false_iff,
      Option.isNone_iff_eq_none] at chg source timer form rejoin
    obtain ⟨i, source⟩ := Option.isSome_iff_exists.mp source
    exact .inr (.inl ⟨i, chg, mode, source, shown i mode source, noneOf timer, noneOf form, noneOf rejoin⟩)
  | holding =>
    simp only [mode, Mode.hasSource, reduceCtorEq, decide_false, Option.isSome_eq_false_iff,
      Option.isNone_iff_eq_none] at chg source watch
    obtain ⟨i, source⟩ := Option.isSome_iff_exists.mp source
    exact .inr (.inr (.inl ⟨i, chg, mode, source, noneOf watch, fun r => held i r source, blanked⟩))
  | changing =>
    simp only [mode, Mode.hasSource, reduceCtorEq, decide_true, Option.isSome_eq_false_iff,
      Option.isNone_iff_eq_none] at chg source watch timer form rejoin
    exact .inr (.inr (.inr ⟨⟨chg, mode, source, noneOf watch, noneOf timer, noneOf form, noneOf rejoin, blanked⟩,
      settle⟩))

namespace State.OutputLawful

variable {s t : State} {i : SlotNo}

theorem isShowing (h : s.OutputLawful) (mode : s.out.mode = .showing) (source : s.out.source = some i) :
    s.IsShowing i := by
  rcases State.outputLawful_cases h with d | ⟨j, d⟩ | ⟨j, d⟩ | ⟨d, -⟩
  · simp [d.mode] at mode
  · cases d.source.symm.trans source
    exact d
  · simp [d.mode] at mode
  · simp [d.mode] at mode

theorem isHolding (h : s.OutputLawful) (held : s.heldSlot = some i) : s.IsHolding i := by
  unfold State.heldSlot at held
  split at held
  next mode =>
    rcases State.outputLawful_cases h with d | ⟨j, d⟩ | ⟨j, d⟩ | ⟨d, -⟩
    · simp [d.mode] at mode
    · simp [d.mode] at mode
    · cases d.source.symm.trans held
      exact d
    · simp [d.mode] at mode
  next => cases held

theorem isChanging (h : s.OutputLawful) (chg : s.chg.isSome = true) : s.IsChanging ∧ s.SettleSync := by
  rcases State.outputLawful_cases h with d | ⟨j, d⟩ | ⟨j, d⟩ | d
  · simp [d.chg] at chg
  · simp [d.chg] at chg
  · simp [d.chg] at chg
  · exact d

/-- A slot that is shown or held is no changeover's. -/
theorem chg_none (h : s.OutputLawful) (source : s.out.source = some i) : s.chg = none := by
  rcases State.outputLawful_cases h with d | ⟨j, d⟩ | ⟨j, d⟩ | ⟨d, -⟩
  · simp [d.source] at source
  · exact d.chg
  · exact d.chg
  · simp [d.source] at source

/-- The laws speak of nothing but the two records. -/
theorem same (h : s.OutputLawful) (chg : t.chg = s.chg) (out : t.out = s.out) : t.OutputLawful := by
  unfold State.OutputLawful at *
  rw [chg, out]
  exact h

/-- A change of the output record outside the fields the laws name. -/
theorem modOut (h : s.OutputLawful) {f : Output → Output}
    (same : ((f s.out).mode, (f s.out).source, (f s.out).sync, (f s.out).blanked, (f s.out).watch.timer,
      (f s.out).hold.timer, (f s.out).hold.form, (f s.out).hold.rejoin) =
      (s.out.mode, s.out.source, s.out.sync, s.out.blanked, s.out.watch.timer, s.out.hold.timer, s.out.hold.form,
        s.out.hold.rejoin)) :
    (s.modOut f).OutputLawful := by
  simp only [Prod.mk.injEq] at same
  obtain ⟨mode, source, sync, blanked, watch, timer, form, rejoin⟩ := same
  unfold State.OutputLawful at *
  simpa only [State.modOut_out, State.modOut_chg, mode, source, sync, blanked, watch, timer, form, rejoin] using h

/-- A change of the changeover record that enters SETTLE for no new target. -/
theorem modChange (h : s.OutputLawful) {f : Change → Change}
    (settle : ∀ c, (f c).stage = .settle → c.stage = .settle ∧ (f c).toSlot = c.toSlot) :
    (s.modChange f).OutputLawful := by
  cases e : s.chg with
  | none => exact h.same (by simp [e]) (by simp)
  | some c =>
    obtain ⟨d, sync⟩ := h.isChanging (by simp [e])
    refine State.IsChanging.lawful ⟨by simp [e], d.mode, d.source, d.watch, d.timer, d.form, d.rejoin, d.blanked⟩ ?_
    intro c' i e' stage target
    simp only [State.modChange_chg, e, Option.map_some, Option.some.injEq] at e'
    subst e'
    obtain ⟨was, same⟩ := settle c stage
    exact sync c i e was (same ▸ target)

end State.OutputLawful

/-! ## The ways out of a mode -/

/-- DARK is entered without a changeover record (R85, R86, R95, R109). -/
theorem State.goDark_isDark {s : State} (chg : s.chg = none) (cause : OutCause) : (s.goDark cause).IsDark := by
  refine ⟨by simp [chg], ?_, ?_, ?_, ?_, ?_, ?_, ?_⟩ <;>
    simp [State.goDark, Output.darkened, Watch.stop, Hold.none]

theorem State.failChange_isDark {s : State} {c : Change} (chg : s.chg = some c) (reason step : Result) :
    (s.failChange reason step).IsDark :=
  (State.goDark_isDark (s := { s with chg := none }) rfl .changeover).same (by simp [State.failChange, chg])
    (by simp [State.failChange, chg])

theorem State.endAtNone_isDark {s : State} {c : Change} (chg : s.chg = some c) : s.endAtNone.IsDark :=
  (State.goDark_isDark (s := { s with chg := none }) rfl .changeover).same (by simp [State.endAtNone, chg])
    (by simp [State.endAtNone, chg])

end Sys2Proof.Machine

/-! The operations that move the output and the changeover keep their laws. -/

namespace Sys2Proof.Machine

/-! ## Staying in a mode -/

theorem State.IsShowing.same {s t : State} {i : SlotNo} (h : s.IsShowing i) (chg : t.chg = s.chg)
    (out : t.out = s.out) : t.IsShowing i := by
  obtain ⟨c, mode, source, sync, timer, form, rejoin⟩ := h
  rw [← chg] at c
  rw [← out] at mode source sync timer form rejoin
  exact ⟨c, mode, source, sync, timer, form, rejoin⟩

/-- A change of the output record that leaves alone the fields named in SHOWING. -/
theorem State.IsShowing.modOut {s : State} {i : SlotNo} (h : s.IsShowing i) {f : Output → Output}
    (same : ((f s.out).mode, (f s.out).source, (f s.out).sync, (f s.out).hold) =
      (s.out.mode, s.out.source, s.out.sync, s.out.hold)) : (s.modOut f).IsShowing i := by
  simp only [Prod.mk.injEq] at same
  obtain ⟨mode, source, sync, hold⟩ := same
  exact ⟨h.chg, mode.trans h.mode, source.trans h.source, sync.trans h.sync, (congrArg Hold.timer hold).trans h.timer,
    (congrArg Hold.form hold).trans h.form, (congrArg Hold.rejoin hold).trans h.rejoin⟩

/-- Storing staged items clears them and changes nothing else in the output record (R76). -/
theorem State.storeStaged_out (s : State) (i : SlotNo) :
    (s.storeStaged i).out = { s.out with stagedLevel := none, stagedMap := none } := by
  unfold State.storeStaged
  dsimp only
  repeat' split
  all_goals rfl

theorem State.IsShowing.applyStaged {s : State} {i j : SlotNo} (h : s.IsShowing i) :
    (s.applyStaged j).IsShowing i := by
  have stored : (s.storeStaged j).IsShowing i :=
    State.IsShowing.same (s := s.modOut fun o => { o with stagedLevel := none, stagedMap := none })
      (h.modOut (by rfl)) (by simp) (by simp [State.storeStaged_out])
  unfold State.applyStaged
  dsimp only
  split
  · exact stored.modOut (by rfl)
  · exact stored

theorem State.IsChanging.same {s t : State} (h : s.IsChanging) (chg : t.chg = s.chg) (out : t.out = s.out) :
    t.IsChanging := by
  obtain ⟨c, mode, source, watch, timer, form, rejoin, blanked⟩ := h
  rw [← chg] at c
  rw [← out] at mode source watch timer form rejoin blanked
  exact ⟨c, mode, source, watch, timer, form, rejoin, blanked⟩

theorem State.IsChanging.modChange {s : State} (h : s.IsChanging) (f : Change → Change) : (s.modChange f).IsChanging :=
  ⟨by simpa using h.chg, h.mode, h.source, h.watch, h.timer, h.form, h.rejoin, h.blanked⟩

theorem State.IsChanging.toBridge {s : State} (h : s.IsChanging) : s.toBridge.IsChanging :=
  ⟨h.chg, h.mode, h.source, h.watch, h.timer, h.form, h.rejoin, fun _ => rfl⟩

theorem State.IsChanging.leaveSlotSync {s : State} (h : s.IsChanging) : s.leaveSlotSync.IsChanging := by
  unfold State.leaveSlotSync
  split
  · exact h
  · exact h.toBridge

/-- Outside SETTLE a changeover leaves the sync source free. -/
theorem State.IsChanging.lawful_of_stage {s : State} (h : s.IsChanging)
    (stage : ∀ c, s.chg = some c → c.stage ≠ .settle) : s.OutputLawful :=
  h.lawful fun c _ e settle => absurd settle (stage c e)

/-- A stage other than SETTLE is entered. -/
theorem State.IsChanging.enter {s : State} (h : s.IsChanging) {f : Change → Change}
    (stage : ∀ c, (f c).stage ≠ .settle) : (s.modChange f).OutputLawful := by
  refine (h.modChange f).lawful_of_stage fun c e => ?_
  obtain ⟨c', -, rfl⟩ := Option.map_eq_some_iff.mp ((State.modChange_chg s f).symm.trans e)
  exact stage c'

namespace State.OutputLawful

variable {s t : State} {i : SlotNo}

theorem push (h : s.OutputLawful) {ts : List Task} : (s.push ts).OutputLawful := h.same rfl rfl

theorem outNotice (h : s.OutputLawful) {cause : OutCause} : (s.outNotice cause).OutputLawful :=
  h.same (by simp) (by simp)

theorem startSampler (h : s.OutputLawful) : (s.startSampler i).OutputLawful := h.same rfl rfl

/-! ## The switch and the queues (R13, R19, R108) -/

theorem outgoingOpened (h : s.OutputLawful) : (s.outgoingOpened i).OutputLawful := by
  unfold State.outgoingOpened
  split
  · exact h
  next c e =>
    obtain ⟨d, -⟩ := h.isChanging (by simp [e])
    have bridged (stage : c.stage ≠ .settle) : s.toBridge.OutputLawful :=
      d.toBridge.lawful_of_stage fun c' e' => by cases e.symm.trans e'; exact stage
    repeat' split
    next fade => exact bridged (by simp [fade])
    next bridge => exact (bridged (by simp [bridge])).same (by simp) (by simp)
    · exact h
    · exact h

theorem powerDown (h : s.OutputLawful) : (s.powerDown i).OutputLawful :=
  outgoingOpened (h.same (by simp) (by simp))

theorem shedTest (h : s.OutputLawful) : (s.shedTest i).OutputLawful := by
  unfold State.shedTest
  split
  · exact h.powerDown
  · exact h

theorem powerOff (h : s.OutputLawful) : (s.powerOff i).OutputLawful := by
  unfold State.powerOff
  split
  · exact h.powerDown
  · exact h.powerDown
  · exact h.powerDown
  · exact h.powerDown
  · split
    · exact h.powerDown
    · exact h
  · exact h.same (by simp) (by simp)
  all_goals exact h

theorem turn (h : s.OutputLawful) : (s.turn i).OutputLawful := by
  unfold State.turn
  dsimp only
  repeat' split
  · exact h
  · exact h.same (by simp) (by simp)
  · exact h.shedTest
  · exact h.same (by simp) (by simp)

theorem startStep (h : s.OutputLawful) {st : WorkStep} : (s.startStep i st).OutputLawful := by
  cases st with
  | powerOff => exact powerOff (h.same (by simp) (by simp))
  | powerOn | probe | harness | pause => exact h.same (by simp [State.startStep]) (by simp [State.startStep])

theorem beginStep (h : s.OutputLawful) : (s.beginStep i).OutputLawful := by
  unfold State.beginStep
  repeat' split
  · exact h
  · exact h.same (by simp) (by simp)
  · exact h
  · exact h.same (by simp) (by simp)
  · exact h.startStep

/-! ## DARK and HOLDING (R79, R85) -/

theorem goDark (h : s.OutputLawful) (source : s.out.source = some i) {cause : OutCause} :
    (s.goDark cause).OutputLawful :=
  (State.goDark_isDark (h.chg_none source) cause).lawful

end State.OutputLawful

theorem State.IsShowing.enterHolding {s : State} {i : SlotNo} (h : s.IsShowing i) {form : HoldForm} {time : Nat}
    {cause : OutCause} : (s.enterHolding form time cause).IsHolding i := by
  obtain ⟨chg, mode, source, sync, timer, hform, rejoin⟩ := h
  constructor <;>
    simp [State.enterHolding, chg, source, Watch.stop, Hold.none, State.mute, State.toBridge]

theorem State.IsShowing.loss {s : State} {i j : SlotNo} (h : s.IsShowing i) {cause : OutCause} :
    (s.loss j cause).IsHolding i :=
  h.enterHolding

theorem State.IsShowing.closeFrame {s : State} {i j : SlotNo} (h : s.IsShowing i) {coincident : Bool} :
    (s.closeFrame j coincident).OutputLawful := by
  have opened {u : State} (hu : u.OutputLawful) :
      (if u.out.mode = .showing then u.modSampler fun x => x.openFrame u.now coincident else u).OutputLawful := by
    split
    · exact hu.same rfl rfl
    · exact hu
  unfold State.closeFrame
  refine opened ?_
  split
  · split
    · have declared : ((s.modSampler Sampler.close).declareStall j).IsShowing i := h.same (by simp) (by simp)
      unfold State.stallRestart
      exact declared.enterHolding.lawful.same (State.placeRestart_frame _ _).2.1 (State.placeRestart_frame _ _).2.2.2
    · exact h.lawful.same (by simp) (by simp)
  · exact h.lawful.same (by simp) (by simp)

theorem State.IsShowing.watchFrame {s : State} {i j : SlotNo} (h : s.IsShowing i) {coincident : Bool} :
    (s.watchFrame j coincident).OutputLawful := by
  have watched (w : Watch) : (s.modOut fun o => { o with watch := w }).IsShowing i := h.modOut (by rfl)
  unfold State.watchFrame
  dsimp only
  generalize (if fitsProbe _ _ = true then 0 else _) = irregular
  split
  · exact (watched _).loss.lawful
  · exact (watched _).applyStaged.closeFrame

namespace State.OutputLawful

variable {s t : State} {i : SlotNo}

theorem watchTimerEnds (h : s.OutputLawful) : s.watchTimerEnds.OutputLawful := by
  unfold State.watchTimerEnds
  split
  next tick i timer source =>
    have shown : s.IsShowing i := h.isShowing (h.2.2.1 (by simp [timer])) source
    exact (shown.same (t := s.reach tick) (by simp) (by simp)).loss.lawful
  next => exact h

theorem holdExpires (h : s.OutputLawful) (source : s.out.source = some i) : (s.holdExpires i).OutputLawful := by
  unfold State.holdExpires
  dsimp only
  split <;> exact (State.goDark_isDark (by simpa using h.chg_none source) _).lawful

theorem holdTimerEnds (h : s.OutputLawful) : s.holdTimerEnds.OutputLawful := by
  unfold State.holdTimerEnds
  split
  next tick i _ held =>
    exact holdExpires (h.same (by simp) (by simp)) (by simpa using (h.isHolding held).source)
  next => exact h

end State.OutputLawful

/-! ## The rejoin (R82 to R84) -/

namespace State.IsHolding

variable {s t : State} {i : SlotNo}

theorem same (h : s.IsHolding i) (chg : t.chg = s.chg) (out : t.out = s.out) : t.IsHolding i := by
  obtain ⟨c, mode, source, watch, sync, blanked⟩ := h
  rw [← chg] at c
  rw [← out] at mode source watch sync blanked
  exact ⟨c, mode, source, watch, sync, blanked⟩

/-- A change of the hold fields that enters no SETTLE. -/
theorem modHold (h : s.IsHolding i) {f : Hold → Hold}
    (settle : (f s.out.hold).rejoin = some .settle → s.out.hold.rejoin = some .settle) : (s.modHold f).IsHolding i :=
  ⟨h.chg, h.mode, h.source, h.watch, h.sync ∘ settle, h.blanked⟩

theorem beginRejoin (h : s.IsHolding i) {j : SlotNo} {p : ProbeRecord} {d : Derived} :
    (s.beginRejoin j p d).IsHolding i := by
  have withdrawn : (s.withdrawOutput j).IsHolding i := h.same (by simp) (by simp)
  unfold State.beginRejoin
  exact ⟨withdrawn.chg, withdrawn.mode, withdrawn.source, withdrawn.watch, by simp, withdrawn.blanked⟩

theorem rejoinDecision (h : s.IsHolding i) {j : SlotNo} {p : ProbeRecord} {store : Bool} :
    (s.rejoinDecision j p store).OutputLawful := by
  have decided {u : State} {d : Derived} (hu : u.IsHolding i) :
      (if d.cls = u.out.classOut ∧ u.settings.accept d = true then u.beginRejoin j p d
        else ((u.faultSlot j .timingChanged).goDark .timingChanged).push [.shed j]).OutputLawful := by
    split
    · exact hu.beginRejoin.lawful
    · exact (State.goDark_isDark (by simpa using hu.chg) _).lawful.push
  unfold State.rejoinDecision
  dsimp only
  split
  · split
    · exact decided (h.same (by simp) (by simp))
    · exact decided h
  · exact h.lawful

theorem stopRejoin (h : s.IsHolding i) {probing : Bool} : (s.stopRejoin probing).IsHolding i := by
  unfold State.stopRejoin State.leaveSlotSync
  split
  · exact h.modHold (by simp)
  · exact ⟨h.chg, h.mode, h.source, h.watch, by simp [State.modHold], fun _ => rfl⟩

/-- The cut of a rejoin (R83, R101). -/
theorem cut (h : s.IsHolding i) {f : Hold → Hold} : ((s.cutTo i).modHold f).IsHolding i :=
  ⟨h.chg, h.mode, h.source, h.watch, fun _ => rfl, by simp [State.modHold, State.cutTo]⟩

theorem completeRejoin (h : s.IsHolding i) (sync : s.out.sync = .slot i) : (s.completeRejoin i).OutputLawful := by
  have shown : (s.modOut fun o => { o with blanked := false, mode := .showing, hold := Hold.none }).IsShowing i :=
    ⟨h.chg, rfl, h.source, sync, rfl, rfl, rfl⟩
  have active : ((s.modOut fun o => { o with blanked := false, mode := .showing, hold := Hold.none }).activate
      i).IsShowing i := shown.same (by simp) (by simp)
  unfold State.completeRejoin
  refine State.OutputLawful.push (State.OutputLawful.outNotice (State.OutputLawful.startSampler ?_))
  exact ((active.applyStaged.modOut (by rfl)).modOut (by rfl)).lawful

theorem rejoinAlign (h : s.IsHolding i) {coincident : Bool} : (s.rejoinAlign i coincident).OutputLawful := by
  unfold State.rejoinAlign
  dsimp only
  repeat' split
  · exact h.cut.completeRejoin rfl
  · exact h.cut.lawful
  · exact (h.modHold (by exact id)).lawful

theorem rejoinSettle (h : s.IsHolding i) (settle : s.out.hold.rejoin = some .settle) :
    (s.rejoinSettle i).OutputLawful := by
  have counted : (s.modHold fun x => { x with cut := s.out.hold.cut.settleFrame (s.after 100) }).IsHolding i :=
    h.modHold (by exact id)
  unfold State.rejoinSettle
  dsimp only
  split
  · exact counted.completeRejoin (h.sync settle)
  · exact counted.lawful

end State.IsHolding

namespace State.OutputLawful

variable {s t : State} {i : SlotNo}

theorem outputProbeDone (h : s.OutputLawful) {p : ProbeRecord} : (s.outputProbeDone i p).OutputLawful := by
  unfold State.outputProbeDone
  split
  next held => exact (h.isHolding held.1).rejoinDecision
  next => exact h

theorem restartOutcome (h : s.OutputLawful) {r : Result} : (s.restartOutcome i r).OutputLawful := by
  unfold State.restartOutcome
  split
  next held =>
    have hold := h.isHolding held
    split
    · exact (hold.modHold (by exact id)).rejoinDecision
    · exact h.goDark hold.source
  next => exact h

theorem heldCheck (h : s.OutputLawful) : (s.heldCheck i).OutputLawful := by
  unfold State.heldCheck
  split
  next held =>
    have hold := h.isHolding held.1
    repeat' split
    · have withdrawn : (s.withdrawOutput i).IsHolding i := hold.same (by simp) (by simp)
      exact (withdrawn.modHold (by exact id)).rejoinDecision
    · exact h
    · exact (hold.stopRejoin.modHold (by exact id)).lawful
    · exact (hold.modHold (by exact id)).lawful
  next => exact h

/-! ## Failure, PREPARE and RECLASS (R96 to R100, R109) -/

theorem failChange (h : s.OutputLawful) {reason step : Result} : (s.failChange reason step).OutputLawful := by
  cases e : s.chg with
  | none => exact h.same (by simp [State.failChange, e]) (by simp [State.failChange, e])
  | some c => exact (State.failChange_isDark e reason step).lawful

theorem endAtNone (h : s.OutputLawful) : s.endAtNone.OutputLawful := by
  cases e : s.chg with
  | none => exact h.same (by simp [State.endAtNone, e]) (by simp [State.endAtNone, e])
  | some c => exact (State.endAtNone_isDark e).lawful

theorem reclassify (h : s.OutputLawful) {d : Derived} : (s.reclassify d).OutputLawful := by
  have programmed : (s.programBridge d).OutputLawful := h.modOut (by rfl)
  unfold State.reclassify
  dsimp only
  split
  · exact programmed.modChange fun c => by simp
  · exact (programmed.modOut (f := fun o => { o with classOut := d.cls }) (by rfl)).same rfl rfl

theorem startReclass (h : s.OutputLawful) : (s.startReclass i).OutputLawful := by
  unfold State.startReclass
  dsimp only
  repeat' split
  · exact h
  · exact failChange (h.modChange (by simp))
  · exact reclassify (h.modChange (by simp))
  · exact failChange (h.modChange (by simp))

end State.OutputLawful

theorem State.IsChanging.startPrepare {s : State} (h : s.IsChanging) {i : SlotNo} : (s.startPrepare i).OutputLawful := by
  unfold State.startPrepare
  dsimp only
  generalize prepared : s.modChange _ = t
  have lawful : t.OutputLawful := prepared ▸ h.enter (by simp)
  repeat' split
  · exact lawful.same (by simp) (by simp)
  · exact lawful.startReclass
  · exact lawful.same (by simp) (by simp)

namespace State.OutputLawful

variable {s t : State} {i : SlotNo}

theorem bridgeEnds (h : s.OutputLawful) : s.bridgeEnds.OutputLawful := by
  unfold State.bridgeEnds
  split
  · exact h
  next e =>
    split
    · exact h.endAtNone
    · exact (h.isChanging (by simp [e])).1.startPrepare

theorem bridgeEnd (h : s.OutputLawful) : s.bridgeEnd.OutputLawful := by
  unfold State.bridgeEnd
  repeat' split
  · exact h
  · exact h.bridgeEnds
  · exact h

theorem fadeTest (h : s.OutputLawful) : s.fadeTest.OutputLawful := by
  unfold State.fadeTest State.beginBridge
  repeat' split
  · exact h
  · exact h.bridgeEnds
  · exact h.modChange (by simp)
  · exact h

/-- The switch at the end of BRIDGE (R94). -/
theorem bridgeSwitch (h : s.OutputLawful) {c : Change} (chg : s.chg = some c) (stage : c.stage = .bridge) :
    s.bridgeSwitch.OutputLawful := by
  obtain ⟨d, -⟩ := h.isChanging (by simp [chg])
  have bridged : s.toBridge.OutputLawful := d.toBridge.lawful_of_stage fun c' e => by
    cases chg.symm.trans e
    simp [stage]
  exact bridged.same (by simp [State.bridgeSwitch]) (by simp [State.bridgeSwitch])

theorem prepareOutcome (h : s.OutputLawful) {r : Result} : (s.prepareOutcome i r).OutputLawful := by
  unfold State.prepareOutcome
  repeat' split
  · exact h
  · exact h.startReclass
  · exact h.failChange
  · exact h

/-! ## A SELECT (R89 to R92, R106, R110 to R113) -/

theorem blanked (h : s.OutputLawful) : s.out.sync = .bridge → s.out.blanked = true := h.2.2.2.2.2.2.2.2.2

theorem startChangeover (h : s.OutputLawful) {sel : Selection} : (s.startChangeover sel).OutputLawful := by
  have left : s.leaveSource.out.sync = .bridge → s.leaveSource.out.blanked = true := by
    unfold State.leaveSource
    split
    · exact h.blanked
    · simpa [State.storeStaged_out] using h.blanked
  have heldLeft : s.leaveSource.leaveHeldSync.out.sync = .bridge → s.leaveSource.leaveHeldSync.out.blanked = true := by
    unfold State.leaveHeldSync State.leaveSlotSync
    repeat' split
    · exact left
    · exact fun _ => rfl
    · exact left
  refine State.IsChanging.lawful_of_stage ?_ ?_
  · constructor <;> simp [State.startChangeover, Output.changing, Watch.stop, Hold.none]
    exact heldLeft
  · intro c e
    simp only [State.startChangeover, State.push_chg, State.outNotice_frame, State.clearShed_frame,
      Option.some.injEq] at e
    subst e
    simp [Change.start]

theorem startSelection (h : s.OutputLawful) {sel : Selection} : (s.startSelection sel).OutputLawful := by
  unfold State.startSelection
  split
  · exact h.same (by simp) (by simp)
  · exact h.startChangeover

theorem retarget (h : s.OutputLawful) {sel : Selection} (stage : ∀ c, s.chg = some c → c.stage ≠ .settle) :
    (s.retarget sel).OutputLawful := by
  unfold State.retarget
  dsimp only
  split
  · exact h
  next c e =>
    obtain ⟨d, -⟩ := h.isChanging (by simp [e])
    have removed : ((s.completeSelect c.tag c.toSlot .superseded .ok).removeTargetEntry c.toSlot).IsChanging :=
      d.same (by simp) (by simp)
    have renamed := removed.modChange fun c => { c with toSlot := sel.slot, tag := sel.tag, targetProbe := none }
    generalize named : State.modChange _ _ = u at renamed ⊢
    have replaced : (u.clearShed sel.slot).IsChanging := renamed.same (by simp) (by simp)
    have lawful : (u.clearShed sel.slot).OutputLawful := replaced.lawful_of_stage fun c' e' => by
      subst named
      simp only [State.clearShed_frame, State.modChange_chg, State.removeTargetEntry_frame, State.completeSelect_frame, e,
        Option.map_some, Option.some.injEq] at e'
      subst e'
      exact stage c e
    refine push ?_
    repeat' split
    · exact lawful
    · exact lawful.endAtNone
    · exact replaced.startPrepare

theorem storeReselect (h : s.OutputLawful) {sel : Selection} : (s.storeReselect sel).OutputLawful := by
  unfold State.storeReselect
  dsimp only
  repeat' split
  · exact h
  · exact modChange (h.same (by simp) (by simp)) (by simp)
  · exact h.modChange (by simp)

theorem targetCheck (h : s.OutputLawful) : s.targetCheck.OutputLawful := by
  unfold State.targetCheck
  dsimp only
  split
  next c i e _ =>
    have left : s.leaveSlotSync.IsChanging := (h.isChanging (by simp [e])).1.leaveSlotSync
    repeat' split
    · exact left.startPrepare
    · refine retarget (left.enter (by simp)) fun c' e' => ?_
      simp [e] at e'
      subst e'
      simp
    · exact h
  next => exact h

theorem startAlign (h : s.OutputLawful) : s.startAlign.OutputLawful := h.modChange (by simp)

theorem faultTarget (h : s.OutputLawful) {reason : Result} : (s.faultTarget reason).OutputLawful := by
  unfold State.faultTarget
  split
  · exact h
  next i target =>
    obtain ⟨c, e, -⟩ := Option.bind_eq_some_iff.mp target
    exact (State.failChange_isDark (c := c) (by simpa using e) _ _).lawful

end State.OutputLawful

/-! ## ALIGN and SETTLE of a changeover (R101 to R104) -/

/-- The shed of an outgoing slot after FADE and BRIDGE leaves the output alone (R19, R108). -/
theorem State.flagShed_out {s : State} (stage : ∀ c, s.chg = some c → c.stage ≠ .fade ∧ c.stage ≠ .bridge)
    (source : Option SlotNo) (target : SlotNo) : (s.flagShed source target).out = s.out := by
  have opened {u : State} (chg : u.chg = s.chg) (out : u.out = s.out) (i : SlotNo) : (u.outgoingOpened i).out = s.out := by
    unfold State.outgoingOpened
    split
    · exact out
    next c e =>
      obtain ⟨fade, bridge⟩ := stage c (chg ▸ e)
      simp [fade, bridge, out]
  unfold State.flagShed State.shedTest State.powerDown
  dsimp only
  repeat' split
  · rfl
  · exact opened (by simp) (by simp) _
  · simp
  · rfl

theorem State.IsChanging.completeChange {s : State} (h : s.IsChanging) {i : SlotNo} (sync : s.out.sync = .slot i)
    (stage : ∀ c, s.chg = some c → c.stage ≠ .fade ∧ c.stage ≠ .bridge) : (s.completeChange i).IsShowing i := by
  obtain ⟨c, e⟩ := Option.isSome_iff_exists.mp h.chg
  obtain ⟨-, -, -, -, timer, form, rejoin, -⟩ := h
  have shed {u : State} (chg : u.chg = s.chg) (x : Option SlotNo) : (u.flagShed x i).out = u.out :=
    State.flagShed_out (chg ▸ stage) x i
  refine ⟨?_, ?_, ?_, ?_, ?_, ?_, ?_⟩ <;> simp [State.completeChange, e, shed, State.startWatch, sync, timer, form, rejoin]

end Sys2Proof.Machine

/-! The tasks, the pulses, the requests and the commands keep the laws of the output; O6. -/

namespace Sys2Proof.Machine

namespace State.OutputLawful

variable {s t : State} {i : SlotNo}

/-! ## ALIGN, SETTLE and the timers (R98 to R105) -/

theorem changeAlign (h : s.OutputLawful) {c : Change} (chg : s.chg = some c) (target : c.toSlot = some i)
    {coincident : Bool} : (s.changeAlign i coincident).OutputLawful := by
  obtain ⟨d, -⟩ := h.isChanging (by simp [chg])
  have cut : (s.cutTo i).IsChanging := ⟨d.chg, d.mode, d.source, d.watch, d.timer, d.form, d.rejoin, by simp [State.cutTo]⟩
  have settling {x : Cut} : ((s.cutTo i).modChange fun c => { c with stage := .settle, cut := x }).IsChanging :=
    cut.modChange _
  unfold State.changeAlign
  rw [chg]
  dsimp only
  repeat' split
  · exact (settling.completeChange rfl (by simp)).lawful
  · refine settling.lawful fun c' j e _ aim => ?_
    simp only [State.modChange_chg, State.cutTo_frame, chg, Option.map_some, Option.some.injEq] at e
    subst e
    cases target.symm.trans aim
    rfl
  · exact h.modChange (by simp)

theorem changeSettle (h : s.OutputLawful) {c : Change} (chg : s.chg = some c) (stage : c.stage = .settle)
    (target : c.toSlot = some i) : (s.changeSettle i).OutputLawful := by
  obtain ⟨d, settle⟩ := h.isChanging (by simp [chg])
  have sync : s.out.sync = .slot i := settle c i chg stage target
  unfold State.changeSettle
  rw [chg]
  dsimp only
  split
  · refine ((d.modChange _).completeChange sync fun c' e => ?_).lawful
    simp only [State.modChange_chg, chg, Option.map_some, Option.some.injEq] at e
    subst e
    simp [stage]
  · exact h.modChange (by simp)

theorem frameStarts (h : s.OutputLawful) : s.frameStarts.OutputLawful := h.modOut (by rfl)

theorem reclassFrame (h : s.OutputLawful) : s.reclassFrame.OutputLawful := by
  unfold State.reclassFrame
  dsimp only
  repeat' split
  · exact h
  · exact startAlign (h.modChange (by simp))
  · exact h.modChange (by simp)
  · exact h

theorem reclassDeadline (h : s.OutputLawful) : s.reclassDeadline.OutputLawful := by
  unfold State.reclassDeadline
  repeat' split
  · exact h
  · exact h.startAlign
  · exact h.startAlign
  · exact h
  · exact h

theorem reach (h : s.OutputLawful) (tick : Nat) : (s.reach tick).OutputLawful := h.same (by simp) (by simp)

theorem bridgeTimerEnds (h : s.OutputLawful) : s.bridgeTimerEnds.OutputLawful := by
  unfold State.bridgeTimerEnds State.stageTimer
  cases chg : s.chg with
  | none => exact h
  | some c =>
    dsimp only
    split
    · exact h
    next e =>
      split at e
      next stage => exact (h.reach _).bridgeSwitch (by simpa using chg) stage
      next => cases e

theorem prepareTimerEnds (h : s.OutputLawful) : s.prepareTimerEnds.OutputLawful := by
  unfold State.prepareTimerEnds
  split
  · exact h
  · exact (h.reach _).failChange

/-- A rejoin stage ends at its timer (R83). -/
theorem rejoinTimer (h : s.OutputLawful) {st : RejoinStage} {tick : Nat} (timer : s.rejoinTimer st = some tick) :
    ((s.reach tick).stopRejoin true).OutputLawful := by
  unfold State.rejoinTimer at timer
  split at timer
  next stage =>
    have mode : s.out.mode = .holding := h.2.2.2.2.2.1 (by simp [stage])
    rcases State.outputLawful_cases h with d | ⟨j, d⟩ | ⟨j, d⟩ | ⟨d, -⟩
    · simp [d.mode] at mode
    · simp [d.mode] at mode
    · have reached : (s.reach tick).IsHolding j := d.same (by simp) (by simp)
      exact reached.stopRejoin.lawful
    · simp [d.mode] at mode
  next => cases timer

theorem alignTimerEnds (h : s.OutputLawful) : s.alignTimerEnds.OutputLawful := by
  unfold State.alignTimerEnds
  split
  · exact (h.reach _).faultTarget
  next timer => exact h.rejoinTimer timer
  · exact h

theorem settleTimerEnds (h : s.OutputLawful) : s.settleTimerEnds.OutputLawful := by
  unfold State.settleTimerEnds
  split
  · exact (h.reach _).faultTarget
  next timer => exact h.rejoinTimer timer
  · exact h

/-! ## Trips and tasks -/

theorem tripOutput (h : s.OutputLawful) : (s.tripOutput i).OutputLawful := by
  unfold State.tripOutput
  split
  next source => exact h.goDark (by simpa [State.isSource] using source)
  next =>
    repeat' split
    · exact h
    · exact h.failChange
    · exact h.failChange
    · exact h.outgoingOpened

theorem trip (h : s.OutputLawful) : (s.trip i).OutputLawful := by
  unfold State.trip
  split
  · have before : (((s.tripSlot i).abandonPulse i).tripWork i).OutputLawful := h.same (by simp) (by simp)
    exact before.tripOutput.same rfl rfl
  · exact h

theorem doTask (h : s.OutputLawful) {x : Task} : (s.doTask x).OutputLawful := by
  cases x with
  | turn i => exact h.turn
  | beginStep i => exact h.beginStep
  | prepareOutcome i r => exact h.prepareOutcome
  | restartOutcome i r => exact h.restartOutcome
  | outputProbeDone i p => exact h.outputProbeDone
  | shed i => exact h.shedTest
  | fade => exact h.fadeTest
  | bridgeEnd => exact h.bridgeEnd
  | targetCheck => exact h.targetCheck
  | heldCheck i => exact h.heldCheck
  | startSelection sel => exact h.startSelection
  | stepEnd | probeDone | grant | tester | payout => exact h.same (by simp [State.doTask]) (by simp [State.doTask])

theorem cascade (h : s.OutputLawful) : s.cascade.OutputLawful :=
  run_induction State.OutputLawful (fun u _ rest _ hu => doTask (s := { u with todo := rest }) (hu.same rfl rfl)) _ s h

/-! ## Pulses (R42) -/

theorem roleFrame (h : s.OutputLawful) {coincident : Bool} :
    (s.roleFrame i coincident (s.role i)).OutputLawful := by
  cases mode : s.out.mode with
  | dark => simpa [State.role, mode, State.roleFrame] using h
  | showing =>
    by_cases source : s.out.source = some i
    · simpa [State.role, mode, State.isSource, source, State.roleFrame] using (h.isShowing mode source).watchFrame
    · simpa [State.role, mode, State.isSource, source, State.roleFrame] using h
  | holding =>
    by_cases source : s.out.source = some i
    · have hold : s.IsHolding i := h.isHolding (by simp [State.heldSlot, mode, source])
      simp only [State.role, mode, State.isSource, source, decide_true, if_true]
      split
      · exact hold.rejoinAlign
      next settle => exact hold.rejoinSettle settle
      · split
        · exact h.same (by simp [State.roleFrame]) (by simp [State.roleFrame])
        · exact h
    · simpa [State.role, mode, State.isSource, source, State.roleFrame] using h
  | changing =>
    cases chg : s.chg with
    | none => simpa [State.role, mode, chg, State.roleFrame] using h
    | some c =>
      simp only [State.role, mode, chg, State.changeRole]
      split
      next stage =>
        split
        · exact h.bridgeSwitch chg stage
        · exact h
      next =>
        split
        next target => exact h.changeAlign chg target
        next => exact h
      next stage =>
        split
        next target => exact h.changeSettle chg stage target
        next => exact h
      next => exact h

theorem roleLine (h : s.OutputLawful) {x : Role} : (s.roleLine x).OutputLawful := by
  unfold State.roleLine
  split
  · unfold State.watchLine
    exact State.OutputLawful.same (s := s.modOut fun o => { o with watch := { o.watch with lineCount := _ } })
      (h.modOut (by rfl)) rfl rfl
  · exact h.modChange (by simp)
  · exact h.modOut (by rfl)
  · exact h

theorem framePulse (h : s.OutputLawful) : (s.framePulse i).OutputLawful := by
  have engine {u : State} (hu : u.OutputLawful) {k : EngineNo} {on c : Bool} : (u.engineFrameIf k on c).OutputLawful := by
    unfold State.engineFrameIf
    split
    · exact cascade (hu.same (by simp) (by simp))
    · exact hu
  have measured := engine (engine (u := s.modTap i fun t => { t with lastFrame := some s.now }) (h.same rfl rfl)
    (k := 0) (on := s.engineOn 0 i) (c := s.lineNow i)) (k := 1) (on := s.engineOn 1 i) (c := s.lineNow i)
  unfold State.framePulse
  dsimp only
  split
  next same => exact same ▸ measured.roleFrame
  next => exact measured

theorem linePulse (h : s.OutputLawful) {opens : Bool} : (s.linePulse i opens).OutputLawful := by
  have engine {u : State} (hu : u.OutputLawful) {k : EngineNo} {on c : Bool} : (u.engineLineIf k on c).OutputLawful := by
    unfold State.engineLineIf
    split
    · exact cascade (hu.same (by simp) (by simp))
    · exact hu
  have measured := engine (engine (u := s.modTap i fun t => { t with lastLine := some s.now }) (h.same rfl rfl)
    (k := 0) (on := s.engineOn 0 i) (c := opens && !s.frameNow i)) (k := 1) (on := s.engineOn 1 i)
    (c := opens && !s.frameNow i)
  unfold State.linePulse
  dsimp only
  split
  next same => exact same ▸ measured.roleLine
  next => exact measured

theorem frameEdge (h : s.OutputLawful) {e : FrameEdge} : (s.frameEdge e).OutputLawful := by
  have level : (s.setFrameLevel e).OutputLawful := h.same rfl rfl
  unfold State.frameEdge
  dsimp only
  split
  · exact level.framePulse
  · exact level

theorem lineEdge (h : s.OutputLawful) {e : LineEdge} : (s.lineEdge e).OutputLawful := by
  have level : (s.setLineLevel e).OutputLawful := h.same rfl rfl
  unfold State.lineEdge
  dsimp only
  split
  · exact level.linePulse
  · exact level

/-! ## Requests -/

theorem takeSetMap (h : s.OutputLawful) {tag slot : Byte} {sources : Vector Byte 24} :
    (s.takeSetMap tag slot sources).OutputLawful := by
  unfold State.takeSetMap
  dsimp only
  split
  · exact h.same (by simp) (by simp)
  split
  · exact h.same (by simp) (by simp)
  split
  · exact h.same (by simp) (by simp)
  next m _ =>
    have staged : (s.modOut fun o => { o with stagedMap := some m }).OutputLawful := h.modOut (by rfl)
    split
    · exact staged.same (by simp) (by simp)
    · exact h.same (by simp) (by simp)

theorem takeSetTrim (h : s.OutputLawful) {tag slot level : Byte} : (s.takeSetTrim tag slot level).OutputLawful := by
  have staged : (s.modOut fun o => { o with stagedLevel := some (clamp 0 62 level.toNat) }).OutputLawful :=
    h.modOut (by rfl)
  unfold State.takeSetTrim
  dsimp only
  split
  · exact h.same (by simp) (by simp)
  split
  · exact h.same (by simp) (by simp)
  split
  · exact staged.same (by simp) (by simp)
  · exact h.same (by simp) (by simp)

theorem takeSelect (h : s.OutputLawful) {tag slot : Byte} : (s.takeSelect tag slot).OutputLawful := by
  have accepted {u : State} (hu : u.OutputLawful) {sel : Selection} : (u.acceptSelect sel).OutputLawful := by
    unfold State.acceptSelect
    split
    · exact hu.startChangeover
    next c chg =>
      have early (stage : c.stage ≠ .settle) : (u.retarget sel).OutputLawful :=
        hu.retarget fun c' e => by cases chg.symm.trans e; exact stage
      split
      next stage => exact early (by simp [stage])
      next stage => exact early (by simp [stage])
      next stage => exact early (by simp [stage])
      next stage => exact early (by simp [stage])
      · exact hu.storeReselect
      · exact hu.storeReselect
  have replied {body : List Byte} : (s.reply 0x0C tag body).OutputLawful := h.same rfl rfl
  unfold State.takeSelect
  repeat' split
  · exact replied
  · exact replied
  · exact replied
  · exact replied
  · exact accepted replied

theorem takeCancel (h : s.OutputLawful) {tag : Byte} : (s.takeCancel tag).OutputLawful := by
  have replied {body : List Byte} : (s.reply 0x0D tag body).OutputLawful := h.same rfl rfl
  have removed {c : Change} : ((s.reply 0x0D tag tooLateBody).cancelReselect c).OutputLawful := by
    unfold State.cancelReselect
    split
    · exact replied
    · have removed : ((s.reply 0x0D tag tooLateBody).modChange fun c => { c with reselect := none }).OutputLawful :=
        replied.modChange (by simp)
      exact removed.same (by simp) (by simp)
  unfold State.takeCancel
  split
  · exact h.same rfl rfl
  split
  · exact replied.failChange
  · exact replied.failChange
  · exact replied.failChange
  · exact replied.failChange
  · exact removed
  · exact removed

theorem takeRequest (h : s.OutputLawful) {r : Request} : (s.takeRequest r).OutputLawful := by
  unfold State.takeRequest
  split
  case h_7 => exact h.takeSetMap
  case h_8 => exact h.takeSetTrim
  case h_12 => exact h.takeSelect
  case h_13 => exact h.takeCancel
  all_goals exact h.same (by simp) (by simp)

theorem offer (h : s.OutputLawful) {r : Request} : (s.offer r).OutputLawful := by
  unfold State.offer
  split
  · exact h.takeRequest.cascade
  · exact h.same rfl rfl

theorem drainAll (h : s.OutputLawful) : s.drainAll.OutputLawful :=
  drain_induction State.OutputLawful (fun _ _ hu => hu.same rfl rfl) (fun _ _ hu => hu.offer) _ s h

theorem bytesArrive (h : s.OutputLawful) (bs : List Byte) : (s.bytesArrive bs).OutputLawful := by
  unfold State.bytesArrive
  induction bs generalizing s with
  | nil => exact h
  | cons b bs ih => exact ih (drainAll (h.same (by simp) (by simp)))

theorem submit (h : s.OutputLawful) {r : Request} : (s.submit r).OutputLawful := by
  unfold State.submit
  split
  · exact offer (h.same (by simp) (by simp))
  · exact h.bytesArrive _

theorem placeFreed (h : s.OutputLawful) : s.placeFreed.OutputLawful := by
  have emptied : (s.modLink fun l => { l with waiting := none }).OutputLawful := h.same rfl rfl
  unfold State.placeFreed
  repeat' split
  · exact h.same (by simp) (by simp)
  · exact emptied.takeRequest.cascade.drainAll
  · exact h

theorem finish (h : s.OutputLawful) : s.finish.OutputLawful := by
  have began := h.cascade
  unfold State.finish State.beginMessage
  dsimp only
  repeat' split
  · exact placeFreed (began.same rfl rfl)
  · exact began.same rfl rfl
  · exact began

/-! ## Resets -/

theorem restarted (s : State) : s.restarted.OutputLawful := by
  refine State.IsDark.lawful ?_
  constructor <;> simp [State.restarted, Output.restarted, Output.reset, Hold.none]

theorem hardReset (s : State) {cause : ResetCause} : (s.hardReset cause).OutputLawful :=
  State.IsDark.lawful ⟨rfl, rfl, rfl, rfl, rfl, rfl, rfl, fun _ => rfl⟩

end State.OutputLawful

/-! ## Commands -/

/-- An outcome is a next state that keeps the laws of the output. -/
def OutputKept (o : Outcome) : Prop := ∃ t, o = .next t ∧ t.OutputLawful

theorem live_outputKept {dt : Nat} {effect : State → State} {s : State} (now : (s.advance dt).OutputLawful)
    (h : (effect (s.advance dt)).OutputLawful) : OutputKept (live dt effect s) := by
  unfold live
  dsimp only
  split
  · exact ⟨_, rfl, now⟩
  · exact ⟨_, rfl, h.finish⟩

theorem livePin_outputKept {dt : Nat} {pin effect : State → State} {s : State} (p : (pin (s.advance dt)).OutputLawful)
    (h : (effect (s.advance dt)).OutputLawful) : OutputKept (livePin dt pin effect s) := by
  unfold livePin
  dsimp only
  split
  · exact ⟨_, rfl, p⟩
  · exact ⟨_, rfl, h.finish⟩

theorem request_outputKept {dt : Nat} {tag : Byte} {op : ReqOp} {s : State} (now : (s.advance dt).OutputLawful) :
    OutputKept (request dt tag op s) :=
  live_outputKept now now.submit

/-- Every command keeps the laws of the output. -/
theorem exec_outputKept (c : Instr) {s : State} (h : s.OutputLawful) : OutputKept (exec c s) := by
  have now (dt : Nat) : (s.advance dt).OutputLawful := h.same rfl rfl
  have unchanged {dt : Nat} {effect : State → State}
      (chg : (effect (s.advance dt)).chg = s.chg) (out : (effect (s.advance dt)).out = s.out) :
      OutputKept (live dt effect s) := live_outputKept (now dt) (h.same chg out)
  have pinned {dt : Nat} {pin effect : State → State}
      (chg : (pin (s.advance dt)).chg = s.chg ∧ (effect (s.advance dt)).chg = s.chg)
      (out : (pin (s.advance dt)).out = s.out ∧ (effect (s.advance dt)).out = s.out) :
      OutputKept (livePin dt pin effect s) := livePin_outputKept (h.same chg.1 out.1) (h.same chg.2 out.2)
  cases c
  case resetLineHeld dt => exact ⟨_, rfl, (now dt).same (by simp) (by simp)⟩
  case hardReset dt cause => exact ⟨_, rfl, (State.OutputLawful.hardReset _).finish⟩
  case restartTaken dt =>
    unfold exec execRestartTaken
    refine live_outputKept (now dt) ?_
    split
    · exact .restarted _
    · exact now dt
  case messageSent dt =>
    unfold exec execMessageSent
    refine live_outputKept (now dt) ?_
    split
    · exact .restarted _
    · exact (now dt).same rfl rfl
  case receiveByte dt b =>
    unfold exec execReceiveByte
    exact live_outputKept (now dt) (State.OutputLawful.drainAll ((now dt).same (by simp) (by simp)))
  case heldCompletionQueued dt =>
    unfold exec execHeldCompletionQueued
    exact unchanged (by simp) (by simp)
  case pauseEnd dt i =>
    unfold exec execPauseEnd
    refine live_outputKept (now dt) ?_
    split
    · exact now dt
    · exact (now dt).same (by simp) (by simp)
  case warmUpEnd dt i =>
    unfold exec execWarmUpEnd
    refine live_outputKept (now dt) ?_
    split
    · exact now dt
    · exact (now dt).same (by simp) (by simp)
  case restTimerEnd dt i =>
    unfold exec execRestTimerEnd
    refine live_outputKept (now dt) ?_
    split
    · exact now dt
    · exact (now dt).same (by simp) (by simp)
  case powerTrip dt i =>
    unfold exec execPowerTrip
    exact live_outputKept (now dt) (now dt).trip
  case supplyDip dt =>
    unfold exec execSupplyDip
    refine live_outputKept (now dt) ?_
    split
    · exact now dt
    · exact (now dt).same (by simp) (by simp)
  case linePulse dt e =>
    unfold exec execLinePulse
    exact livePin_outputKept ((now dt).same rfl rfl) (now dt).lineEdge
  case framePulse dt e =>
    unfold exec execFramePulse
    exact livePin_outputKept ((now dt).same rfl rfl) (now dt).frameEdge
  case pulseLevelWindowEnd dt i lineLow frameLow =>
    unfold exec execPulseLevelWindowEnd
    exact unchanged rfl rfl
  case probeFrameWatchEnd dt k =>
    unfold exec execProbeFrameWatchEnd
    exact unchanged (by simp) (by simp)
  case linePeriodOverflow dt k =>
    unfold exec execLinePeriodOverflow
    exact unchanged (by simp) (by simp)
  case bridgeFrameStart dt =>
    unfold exec execBridgeFrameStart
    exact live_outputKept (now dt) ((now dt).reach _).frameStarts.reclassFrame
  case audioStep dt =>
    have stepped : ((s.advance dt).modOut fun o => { o with gain := stepGain o.gain o.target }).OutputLawful :=
      (now dt).modOut (by rfl)
    unfold exec execAudioStep
    exact live_outputKept (now dt) stepped.push
  case watchFrameTimerEnd dt =>
    unfold exec execWatchFrameTimerEnd
    exact live_outputKept (now dt) (now dt).watchTimerEnds
  case holdTimerExpiry dt =>
    unfold exec execHoldTimerExpiry
    exact live_outputKept (now dt) (now dt).holdTimerEnds
  case bridgeStageTimerEnd dt =>
    unfold exec execBridgeStageTimerEnd
    exact live_outputKept (now dt) (now dt).bridgeTimerEnds
  case prepareTimeout dt =>
    unfold exec execPrepareTimeout
    exact live_outputKept (now dt) (now dt).prepareTimerEnds
  case classSettleDeadline dt =>
    unfold exec execClassSettleDeadline
    exact live_outputKept (now dt) ((now dt).reach _).reclassDeadline
  case alignTimeout dt =>
    unfold exec execAlignTimeout
    exact live_outputKept (now dt) (now dt).alignTimerEnds
  case settleFrameTimerEnd dt =>
    unfold exec execSettleFrameTimerEnd
    exact live_outputKept (now dt) (now dt).settleTimerEnds
  case panelChange dt n asserted =>
    unfold exec execPanelChange
    exact pinned (by simp) (by simp)
  case chordHoldTimerEnd dt =>
    unfold exec execChordHoldTimerEnd
    exact unchanged (by simp) (by simp)
  case coinSwitchChange dt x closed =>
    unfold exec execCoinSwitchChange
    exact pinned (by simp) (by simp)
  case coinPulseMaximum dt x =>
    unfold exec execCoinPulseMaximum
    exact unchanged (by simp) (by simp)
  case lockoutSenseChange dt i d high =>
    unfold exec execLockoutSenseChange
    exact pinned (by simp) (by simp)
  case payoutOnTimeEnd dt =>
    unfold exec execPayoutOnTimeEnd
    refine live_outputKept (now dt) ?_
    repeat' split
    · exact (now dt).same (by simp) (by simp)
    · exact now dt
    · exact now dt
  case payoutOffTimeEnd dt =>
    unfold exec execPayoutOffTimeEnd
    refine live_outputKept (now dt) ?_
    repeat' split
    · exact now dt
    · exact (now dt).same (by simp) (by simp)
    · exact now dt
  case meterOnEnd dt m =>
    unfold exec execMeterOnEnd
    refine live_outputKept (now dt) ?_
    dsimp only
    split
    · exact (now dt).same (by simp) (by simp)
    · exact now dt
  case meterOffEnd dt m =>
    unfold exec execMeterOffEnd
    refine live_outputKept (now dt) ?_
    dsimp only
    split
    · exact (now dt).same (by simp) (by simp)
    · exact now dt
  case harnessPatternEnd dt senses =>
    unfold exec execHarnessPatternEnd
    refine live_outputKept (now dt) ?_
    split
    · exact now dt
    · exact (now dt).same (by simp) (by simp)
  case gridPointSample dt red green blue =>
    unfold exec execGridPointSample
    exact unchanged (by simp) (by simp)
  all_goals exact request_outputKept (now _)

/-- Settles O6: a step runs one command, or none. -/
theorem stepKeepsOutputLaws : Obligations.StepKeepsOutputLaws := by
  intro s t hs h
  unfold step at h
  split at h
  · cases h
    exact hs
  next c rest _ =>
    obtain ⟨u, next, kept⟩ := exec_outputKept c (s := { s with pending := rest }) (hs.same rfl rfl)
    cases next.symm.trans h
    exact kept

end Sys2Proof.Machine

/-! The link: bytes, messages, places and the link's own requests. -/

namespace Sys2Proof.Machine

/-! ## The framer (R174) -/

/-- A gap mark ends a frame only outside HUNT. -/
theorem Framer.step_of_no_gap (f : Framer) {b : RxByte} (h : b.gap = false ∨ f = .hunt) : f.step b = f.take b := by
  unfold Framer.step
  rcases h with h | h <;> simp [h]

/-- Settles O14, by the four states of the framer. -/
theorem framerTakesBytes : Obligations.FramerTakesBytes := by
  refine ⟨fun b => ?_, fun f b outside gap => ?_, fun b loss got gap => ⟨fun len => ?_, fun len => ?_, fun len more => ?_,
    fun len full => ?_, fun kind tag body split => ?_⟩⟩
  · rw [Framer.step_of_no_gap _ (.inr rfl), Framer.take, hunt]
  · simp [Framer.step, gap, outside, hunt]
  · rw [Framer.step_of_no_gap _ (.inl gap), Framer.take, if_pos len]
  · rw [Framer.step_of_no_gap _ (.inl gap), Framer.take, if_neg (by omega)]
  · rw [Framer.step_of_no_gap _ (.inl gap)]
    simp [Framer.take, more]
  · rw [Framer.step_of_no_gap _ (.inl gap)]
    simp [Framer.take, full]
  · rw [Framer.step_of_no_gap _ (.inl gap)]
    subst split
    simp [Framer.take, frameRequest, checkHolds]

/-! ## Messages join the queue (R176, R177) -/

theorem Message.hasKey_eq_true {k : NoticeKey} {m : Message} : m.hasKey k = true ↔ m.cls = .event k := by
  simp [Message.hasKey]

/-- A notice whose key has none waiting joins the tail. -/
theorem putNotice_of_absent {k : NoticeKey} {q : List Message} (h : ∀ x ∈ q, x.cls ≠ .event k) (m : Message) :
    putNotice k m q = q ++ [m] := by
  unfold putNotice
  rw [if_neg]
  simpa [Message.hasKey_eq_true] using h

/-- A notice whose key has one waiting takes its place. -/
theorem putNotice_of_present {k : NoticeKey} {q : List Message} (h : ∃ x ∈ q, x.cls = .event k) (m : Message) :
    putNotice k m q = q.map fun x => if x.cls = .event k then m else x := by
  unfold putNotice
  rw [if_pos (by simpa [Message.hasKey_eq_true] using h)]
  simp only [Message.hasKey_eq_true]

theorem Link.ready_iff (l : Link) : l.ready = true ↔ l.held = [] ∧ l.placesUsed < 18 := by
  unfold Link.ready Link.hasPlace
  rw [Bool.and_eq_true, List.isEmpty_iff, decide_eq_true_iff]
  rfl

theorem Link.not_ready_iff (l : Link) : l.ready = false ↔ l.held ≠ [] ∨ 18 ≤ l.placesUsed := by
  rw [← Bool.not_eq_true, l.ready_iff, Classical.not_and_iff_not_or_not, Nat.not_lt]

/-- Settles O17, by what each kind of message meets. -/
theorem messagesJoinQueue : Obligations.MessagesJoinQueue := by
  refine ⟨fun s k body left => by simp [State.notice, left], fun s k body asked => ?_, fun s tag body => ⟨fun held free => ?_,
    fun full => ?_⟩⟩
  · have queued : (s.notice k body).link.txq =
        putNotice k { cls := .event k, kind := BitVec.ofNat 8 (0x42 + k.place), tag := 0, body := body } s.link.txq := by
      simp [State.notice, asked, byteOf]
    refine ⟨?_, fun absent => ?_, fun present => ?_⟩
    · simp [State.notice, asked, State.modLink]
    · rw [queued, putNotice_of_absent absent]
    · rw [queued, putNotice_of_present present]
      exact ⟨by simp, fun n x at_n => by simp [at_n]⟩
  · have ready : s.link.ready = true := s.link.ready_iff.mpr ⟨held, free⟩
    rcases s.complete_cases tag body with ⟨-, e⟩ | ⟨not, -⟩
    · exact e
    · simp [ready] at not
  · have not : s.link.ready = false := s.link.not_ready_iff.mpr full
    rcases s.complete_cases tag body with ⟨ready, -⟩ | ⟨-, e⟩
    · simp [not] at ready
    · exact e

/-! ## A request without tasks -/

@[simp] theorem State.reply_todo (s : State) (kind tag : Byte) (body : List Byte) :
    (s.reply kind tag body).todo = s.todo := rfl

/-- A request that brings about no task ends with the line. -/
theorem request_of_bare {dt : Nat} {tag : Byte} {op : ReqOp} {s : State} (h : s.TakesRequests)
    (bare : ((s.received dt).takeRequest { tag := tag, op := op }).todo = []) :
    request dt tag op s = .next ((s.received dt).takeRequest { tag := tag, op := op }).beginMessage := by
  rw [request_of_takes dt tag op s h, State.cascade_of_no_task _ bare, State.finish_of_no_task _ bare]

/-- Between two events no task waits. -/
theorem State.TakesRequests.todo {s : State} (h : s.TakesRequests) : s.todo = [] := h.1.1

/-- A request that is only answered. -/
theorem request_replied {dt : Nat} {tag : Byte} {op : ReqOp} {s : State} (h : s.TakesRequests) {kind : Byte}
    {body : List Byte} (e : (s.received dt).takeRequest { tag := tag, op := op } = (s.received dt).reply kind tag body) :
    request dt tag op s = .next ((s.received dt).replied kind tag body) := by
  rw [request_of_bare h (by rw [e]; exact h.todo), e, State.replied]

/-! ## Reading a request (R175) -/

theorem decodeRequest_unknown {kind : Byte} (h : kindIsRequest kind = false) (body : List Byte) :
    decodeRequest kind body = .unknown kind body := by
  have no : (reader kind).isSome = false := (Laws.reader_isSome kind).trans h
  rw [Option.isSome_eq_false_iff, Option.isNone_iff_eq_none] at no
  simp [decodeRequest, no]

theorem vectorOf_length {α : Type} {n : Nat} {l : List α} {v : Vector α n} (h : vectorOf n l = some v) :
    l.length = n := by
  unfold vectorOf at h
  split at h
  next e => exact e
  next => cases h

theorem stepOf_length {l : List Byte} {r : RawStep} (h : stepOf l = some r) : l.length = 6 := by
  unfold stepOf at h
  split at h
  · rfl
  · cases h

theorem stepsOf_length {l : List Byte} {v : Vector RawStep 4} (h : stepsOf l = some v) : l.length = 24 := by
  unfold stepsOf at h
  split at h
  next last =>
    have := stepOf_length last
    simp at this
    omega
  next => cases h

theorem profileOf_length {l : List Byte} {p : RawProfile} (h : profileOf l = some p) : l.length = 20 := by
  unfold profileOf at h
  split at h
  · rfl
  · cases h

/-- A reader reads only bodies of its kind's length (R183). -/
theorem length_of_read {kind : Byte} {read : List Byte → Option ReqOp} (known : reader kind = some read)
    {body : List Byte} {op : ReqOp} (h : read body = some op) : body.length = bodyLength kind := by
  obtain ⟨n, number⟩ : ∃ n, kind.toNat = n := ⟨_, rfl⟩
  unfold reader at known
  unfold bodyLength
  rw [number] at known ⊢
  split at known
  case h_21 => cases known
  case h_6 =>
    cases known
    unfold readSlot at h
    split at h
    next rest =>
      obtain ⟨p, e, -⟩ := Option.map_eq_some_iff.mp h
      simp [profileOf_length e]
    next => cases h
  case h_7 =>
    cases known
    unfold readMap at h
    split at h
    next rest =>
      obtain ⟨p, e, -⟩ := Option.map_eq_some_iff.mp h
      simp [vectorOf_length e]
    next => cases h
  case h_10 =>
    cases known
    unfold readWork at h
    split at h
    next rest =>
      obtain ⟨p, e, -⟩ := Option.map_eq_some_iff.mp h
      simp [stepsOf_length e]
    next => cases h
  all_goals
    cases known
    simp only [noBody, oneByte, twoBytes, readOutput, readCabinet, readChord] at h
    split at h
    · rfl
    · cases h

theorem decodeRequest_badLength {kind : Byte} (h : kindIsRequest kind = true) {body : List Byte}
    (length : body.length ≠ bodyLength kind) : decodeRequest kind body = .badLength kind body := by
  obtain ⟨read, known⟩ := Option.isSome_iff_exists.mp ((Laws.reader_isSome kind).trans h)
  have unread : read body = none :=
    Option.eq_none_iff_forall_ne_some.mpr fun op e => length (length_of_read known e)
  simp [decodeRequest, known, unread]

/-! ## The link's own requests (R175, R178, R180) -/

/-- Settles O18. -/
theorem linkRequestsAnswered : Obligations.LinkRequestsAnswered := by
  refine ⟨fun dt kind tag body s h => ⟨fun unknown => ?_, fun known length => ?_⟩, fun dt tag set s h =>
    ⟨fun low => ?_, fun high => ?_, ?_⟩⟩
  · have unnamed : kindIsRequest kind = false := by
      unfold kindIsRequest
      rcases unknown with rfl | big
      · decide
      · exact decide_eq_false fun ⟨_, small⟩ => absurd big (Nat.not_lt.mpr small)
    exact request_replied h (by simp [State.takeRequest, decodeRequest_unknown unnamed, State.refuse, refusedBody,
      Reason.code])
  · exact request_replied h (by
      simp [State.takeRequest, decodeRequest_badLength (decide_eq_true known) length, State.refuse, refusedBody,
        Reason.code])
  · have clear : set.msb = false := by simpa [BitVec.msb_eq_decide] using low
    have same (m : Message) : m.allowed (set.setWidth 7) =
        match m.cls with | .group => true | .event k => set.getLsbD k.place := by
      rcases m with ⟨cls, -, -, -⟩
      cases cls with
      | group => rfl
      | event k => cases k <;> simp [Message.allowed, NoticeKey.place]
    refine (request_of_bare h ?_).trans ?_
    · simp [State.takeRequest, State.takeNotify, clear, h.todo]
    · simp only [State.takeRequest, State.takeNotify, clear, Bool.false_eq_true, if_false, State.modLink,
        Link.setNotices, State.reply_link, List.filter_append, State.received_link]
      simp only [funext same]
      rfl
  · have full : set.msb = true := by simpa [BitVec.msb_eq_decide] using high
    exact request_replied h (by simp [State.takeRequest, State.takeNotify, full, State.refuse, refusedBody, Reason.code])
  · exact (request_of_bare h (by simp [State.takeRequest, State.takeRestart, h.todo])).trans rfl
end Sys2Proof.Machine

/-! Queries, the receive buffer and the places of the transmit queue. -/

namespace Sys2Proof.Machine

/-! ## Queries -/

theorem slotOf_of_val {b : Byte} {i : SlotNo} (h : i.val = b.toNat) : slotOf b = some i := by
  have small : b.toNat < 8 := h ▸ i.isLt
  unfold slotOf
  rw [dif_pos small]
  exact congrArg some (Fin.ext h.symm)

theorem slotOf_of_large {b : Byte} (h : 7 < b.toNat) : slotOf b = none := dif_neg (Nat.not_lt.mpr h)

/-- Settles O19: each query is answered and brings about no task. -/
theorem queriesAnswerAndChangeNothing : Obligations.QueriesAnswerAndChangeNothing := by
  intro dt tag s h
  refine ⟨request_replied h rfl, request_replied h rfl, request_replied h rfl, fun slot large => request_replied h ?_,
    fun slot i e => request_replied h ?_, fun part large => request_replied h ?_, fun part small => request_replied h ?_⟩
  · simp [State.takeRequest, State.takeQuerySlot, slotOf_of_large large, State.refuse, refusedBody, Reason.code]
  · simp [State.takeRequest, State.takeQuerySlot, slotOf_of_val e, doneBody]
  · simp [State.takeRequest, State.takeQueryTest, large, State.refuse, refusedBody, Reason.code]
  · simp [State.takeRequest, State.takeQueryTest, Nat.not_lt.mpr small, doneBody]

/-! ## Places (R176) -/

/-- What a live command does between two events, when its effect brings about no task. -/
theorem live_of_bare {dt : Nat} {effect : State → State} {s u : State} (h : s.Between)
    (e : effect (s.advance dt) = u) (bare : u.todo = []) : live dt effect s = .next u.beginMessage := by
  rw [live_of_between _ _ _ h, e, State.finish_of_no_task _ bare]

/-- The head of the queue begins on an idle line. -/
theorem State.beginMessage_cons {s : State} (idle : s.link.sending = none) {m : Message} {rest : List Message}
    (queue : s.link.txq = m :: rest) :
    s.beginMessage =
      if m.cls = .group then State.placeFreed (s.modLink fun l => { l with sending := some m, txq := rest })
      else s.modLink fun l => { l with sending := some m, txq := rest } := by
  simp [State.beginMessage, idle, queue, Message.isGroup]

theorem State.beginMessage_nil {s : State} (queue : s.link.txq = []) : s.beginMessage = s := by
  unfold State.beginMessage
  rw [queue]
  split
  next e => cases e
  next => rfl

/-- MESSAGE_SENT, not after the reply of a RESTART, idles the line, and the next message begins (R176). -/
theorem exec_messageSent {dt : Nat} {s : State} (h : s.Between) (plain : s.link.restartSent = false) :
    exec (.messageSent dt) s = .next (State.beginMessage ((s.advance dt).modLink fun l => { l with sending := none })) := by
  unfold exec execMessageSent
  exact live_of_bare h (if_neg (by simp [plain])) h.1

/-- With a RESTART's reply waiting, nothing held moves (R180). -/
theorem State.releaseHeld_of_pending {s : State} (h : s.link.restartPending = true) : s.releaseHeld = s := by
  simp [State.releaseHeld, h]

theorem State.releaseHeld_cons {s : State} (h : s.link.restartPending = false) {m : Message} {rest : List Message}
    (held : s.link.held = m :: rest) :
    s.releaseHeld = s.modLink fun l => { l with held := rest, txq := l.txq ++ [m] } := by
  simp [State.releaseHeld, h, held, State.enqueue, State.modLink]

theorem State.releaseHeld_nil {s : State} (held : s.link.held = []) : s.releaseHeld = s := by
  cases h : s.link.restartPending <;> simp [State.releaseHeld, h, held]

/-- Settles O16. -/
theorem placesPassToHeldThenWaiting : Obligations.PlacesPassToHeldThenWaiting := by
  refine ⟨fun s r => ⟨fun held free => ?_, fun full => ?_⟩, fun dt s h plain => ⟨fun empty => ?_, fun m rest queue => ?_⟩,
    fun dt s h => ⟨fun m rest plain held free => ?_, fun stays => ?_⟩⟩
  · rw [State.offer, if_pos (s.link.ready_iff.mpr ⟨held, free⟩), State.handle]
  · rw [State.offer, if_neg (by simp [s.link.not_ready_iff.mpr full])]
    rfl
  · rw [exec_messageSent h plain]
    exact congrArg _ (State.beginMessage_nil empty)
  · have begun := State.beginMessage_cons (s := (s.advance dt).modLink fun l => { l with sending := none }) rfl queue
    have sent := exec_messageSent (dt := dt) h plain
    refine ⟨fun event => ?_, fun group waits held => ?_, fun group free m' rest' held => ?_, fun group none idle => ?_,
      fun group none r waiting => ?_⟩
    · rw [sent, begun, if_neg event]
      rfl
    · obtain ⟨m', rest', held⟩ := List.exists_cons_of_ne_nil held
      rw [sent, begun, if_pos group, State.placeFreed]
      simp [held, State.releaseHeld, waits, State.modLink]
    · rw [sent, begun, if_pos group, State.placeFreed]
      simp [held, State.releaseHeld, free, State.enqueue, State.modLink]
    · rw [sent, begun, if_pos group, State.placeFreed]
      simp [none, idle, State.modLink]
    · rw [sent, begun, if_pos group, State.placeFreed]
      simp [none, waiting, State.modLink, State.handle]
  · have place : (s.advance dt).link.hasPlace = true := decide_eq_true free
    unfold exec execHeldCompletionQueued
    exact live_of_bare h ((if_pos place).trans (State.releaseHeld_cons (s := s.advance dt) plain held)) h.1
  · have kept : (s.advance dt).queueHeld = s.advance dt := by
      unfold State.queueHeld
      split
      next place =>
        have free : s.link.placesUsed < 18 := of_decide_eq_true place
        rcases stays with waits | held | full
        · exact State.releaseHeld_of_pending waits
        · exact State.releaseHeld_nil held
        · omega
      next => rfl
    unfold exec execHeldCompletionQueued
    exact live_of_bare h kept h.1

end Sys2Proof.Machine

/-! Frames and request bodies read back. -/

namespace Sys2Proof.Machine

/-! ## Numbers read back from their bytes (R182) -/

open BitVec in
@[simp] theorem half_hi8_lo8 (h : Half) : half (hi8 h) (lo8 h) = h :=
  (extractLsb'_append_extractLsb'_eq_extractLsb' rfl).trans extractLsb'_eq_self

open BitVec in
@[simp] theorem linesOf_lineBytes (l : Lines) :
    linesOf (l.extractLsb' 16 8) (l.extractLsb' 8 8) (l.extractLsb' 0 8) = l := by
  unfold linesOf
  rw [extractLsb'_append_extractLsb'_eq_extractLsb' (start₂ := 16) (start₁ := 8) rfl,
    extractLsb'_append_extractLsb'_eq_extractLsb' (start₂ := 8) (start₁ := 0) rfl]
  exact extractLsb'_eq_self

open BitVec in
@[simp] theorem paramsOf_paramBytes (p : BitVec 40) :
    paramsOf (p.extractLsb' 32 8) (p.extractLsb' 24 8) (p.extractLsb' 16 8) (p.extractLsb' 8 8) (p.extractLsb' 0 8) = p := by
  unfold paramsOf
  rw [extractLsb'_append_extractLsb'_eq_extractLsb' (start₂ := 32) (start₁ := 24) rfl,
    extractLsb'_append_extractLsb'_eq_extractLsb' (start₂ := 24) (start₁ := 16) rfl,
    extractLsb'_append_extractLsb'_eq_extractLsb' (start₂ := 16) (start₁ := 8) rfl,
    extractLsb'_append_extractLsb'_eq_extractLsb' (start₂ := 8) (start₁ := 0) rfl]
  exact extractLsb'_eq_self

@[simp] theorem profileOf_bytes (p : RawProfile) : profileOf p.bytes = some p := by
  simp [RawProfile.bytes, lineBytes, profileOf]

@[simp] theorem vectorOf_toList {α : Type} {n : Nat} (v : Vector α n) : vectorOf n v.toList = some v := by
  simp [vectorOf, Vector.toList]

@[simp] theorem stepOf_bytes (r : RawStep) : stepOf r.bytes = some r := by
  simp [RawStep.bytes, paramBytes, stepOf]

/-- Four places of six bytes each. -/
theorem stepsOf_places {a b c d : RawStep} : stepsOf (a.bytes ++ b.bytes ++ c.bytes ++ d.bytes) = some #v[a, b, c, d] := by
  have second : (((a.bytes ++ b.bytes ++ c.bytes ++ d.bytes).drop 6).take 6) = b.bytes := rfl
  have third : (((a.bytes ++ b.bytes ++ c.bytes ++ d.bytes).drop 12).take 6) = c.bytes := rfl
  have first : ((a.bytes ++ b.bytes ++ c.bytes ++ d.bytes).take 6) = a.bytes := rfl
  have last : ((a.bytes ++ b.bytes ++ c.bytes ++ d.bytes).drop 18) = d.bytes := rfl
  rw [stepsOf, first, second, third, last]
  simp

theorem four_getElem (v : Vector RawStep 4) : #v[v[0], v[1], v[2], v[3]] = v := by
  ext i lt
  interval_cases i
  all_goals rfl

/-- Settles O12, request by request. -/
theorem requestBodyRoundTrip : Obligations.RequestBodyRoundTrip := by
  intro op wf
  cases op with
  | unknown kind body =>
    simp only [ReqOp.wf, Bool.and_eq_true, Bool.not_eq_eq_eq_not, Bool.not_true] at wf
    exact decodeRequest_unknown wf.1 body
  | badLength kind body =>
    simp only [ReqOp.wf, Bool.and_eq_true, decide_eq_true_eq] at wf
    exact decodeRequest_badLength wf.1.1 wf.1.2
  | setOutput r => simp [decodeRequest, reader, ReqOp.kind, ReqOp.body, readOutput]
  | setCabinet r => simp [decodeRequest, reader, ReqOp.kind, ReqOp.body, readCabinet]
  | setSlot slot flag p => simp [decodeRequest, reader, ReqOp.kind, ReqOp.body, readSlot]
  | setMap slot sources => simp [decodeRequest, reader, ReqOp.kind, ReqOp.body, readMap]
  | setChord r => simp [decodeRequest, reader, ReqOp.kind, ReqOp.body, readChord]
  | slotWork slot count steps =>
    show ((stepsOf (steps[0].bytes ++ steps[1].bytes ++ steps[2].bytes ++ steps[3].bytes)).map
      (ReqOp.slotWork slot count)).getD (.badLength 0x0A (ReqOp.slotWork slot count steps).body) = _
    rw [stepsOf_places, four_getElem]
    rfl
  | status | notify | restart | setTrim | abortWork | select | cancel | capture | credit | querySlot | queryOutput
  | queryCoin | queryTest | clearDip => rfl

/-! ## Frames (R172) -/

theorem byteSum_cons (b : Byte) (l : List Byte) : byteSum (b :: l) = b + byteSum l := by
  have shift (l : List Byte) (x y : Byte) : l.foldl (· + ·) (x + y) = x + l.foldl (· + ·) y := by
    induction l generalizing y with
    | nil => rfl
    | cons z l ih => rw [List.foldl_cons, List.foldl_cons, BitVec.add_assoc, ih]
  simpa [byteSum] using shift l b 0

theorem byteSum_append (l : List Byte) (b : Byte) : byteSum (l ++ [b]) = byteSum l + b := by
  simp [byteSum]

/-- The check byte brings the sum to 0 (R172). -/
theorem byteSum_checkByte (kind tag : Byte) (body : List Byte) :
    byteSum (BitVec.ofNat 8 (body.length + 2) :: kind :: tag :: body) + checkByte kind tag body = 0 := by
  exact BitVec.add_right_neg _

theorem length_byte_toNat {n : Nat} (h : n ≤ 62) : (BitVec.ofNat 8 (n + 2)).toNat = n + 2 := by
  simp
  omega

/-! ## A frame fed to the framer (R174) -/

/-- The bytes of a frame that are due are held one after another, then the check byte is due. -/
theorem feed_frame (len : Nat) (rest : List Byte) :
    ∀ (bytes got : List Byte), bytes ≠ [] → got.length + bytes.length = len →
      feed (.frame len got false) (bytes ++ rest) = feed (.check (got ++ bytes) false) rest := by
  intro bytes
  induction bytes with
  | nil => intro got h; exact absurd rfl h
  | cons b bytes ih =>
    intro got _ full
    simp only [List.length_cons] at full
    cases bytes with
    | nil =>
      have due : len ≤ got.length + 1 := by simp at full; omega
      simp [feed, Framer.step, Framer.take, due]
    | cons c bytes =>
      have due : ¬ len ≤ got.length + 1 := by simp only [List.length_cons] at full; omega
      have next := ih (got ++ [b]) (by simp) (by simpa [Nat.add_assoc, Nat.add_comm 1] using full)
      simpa [feed, Framer.step, Framer.take, due] using next

/-- A whole frame gives the request in its kind, tag and body (R172, R174). -/
theorem feed_frameBytes (kind tag : Byte) {body : List Byte} (fits : body.length ≤ 62) :
    feed .hunt (frameBytes kind tag body) = some { tag := tag, op := decodeRequest kind body } := by
  have len := length_byte_toNat fits
  have sum := byteSum_checkByte kind tag body
  have taken := feed_frame (body.length + 2) [checkByte kind tag body] (kind :: tag :: body) [] (by simp) (by simp)
  have checked : feed (.check (kind :: tag :: body) false) [checkByte kind tag body] =
      some { tag := tag, op := decodeRequest kind body } := by
    simp [feed, Framer.step, Framer.take, frameRequest, checkHolds, sum]
  have begun (rest : List Byte) : feed .hunt (0xA5 :: BitVec.ofNat 8 (body.length + 2) :: rest) =
      feed (.frame (body.length + 2) [] false) rest := by
    have low : 2 ≤ body.length + 2 ∧ body.length + 2 ≤ 64 := by omega
    simp only [feed, Framer.step, Framer.take, hunt, len, low, Bool.false_and, Bool.false_eq_true, if_false, and_self,
      if_true, Bool.or_self]
  rw [frameBytes, begun]
  exact taken.trans checked

/-- The request of a well-formed command is well formed and fits a frame. -/
theorem fits_of_request {c : Instr} {r : Request} (wf : c.wf = true) (h : c.request = some r) : Laws.Fits r.op := by
  cases c
  case unknownKind dt kind tag body => exact Laws.Carried.unknownKind dt kind tag body wf r h
  all_goals cases h
  all_goals exact Laws.fits_of_known _ rfl

/-- Settles O13. -/
theorem commandFrameRoundTrip : Obligations.CommandFrameRoundTrip := by
  refine ⟨fun kind tag body fits => ?_, fun l => ⟨fun idle => ?_, fun m sending => ?_⟩, fun c r wf h => ?_⟩
  · have len := length_byte_toNat fits
    refine ⟨_, _, rfl, len, by omega, by omega, ?_, ?_, ?_⟩
    · simp [frameBytes]
    · simp [frameBytes]
      omega
    · exact (byteSum_append (_ :: kind :: tag :: body) _).trans (byteSum_checkByte kind tag body)
  · simp [Link.line, idle]
  · simp [Link.line, sending, Message.frame]
  · obtain ⟨known, fits⟩ := fits_of_request wf h
    rw [Request.frame, feed_frameBytes _ _ fits, requestBodyRoundTrip _ known]

end Sys2Proof.Machine

/-! The layouts of replies and notices. -/

namespace Sys2Proof.Machine

/-! ## Lengths of blocks -/

theorem padded_length (n : Nat) (fill : Byte) (l : List Byte) : (padded n fill l).length = n := by simp [padded]

theorem lineBytes_length (l : Lines) : (lineBytes l).length = 3 := rfl

theorem Profile.block_length (p : Profile) : p.block.length = 20 := by
  unfold Profile.block
  cases p.coin <;> simp [natBytes_length, lineBytes_length]

theorem mapBlock_length (m : InputMap) : (mapBlock m).length = 15 := natBytes_length _ _

theorem probeBlock_length (p : Option ProbeRecord) : (probeBlock p).length = 17 := by
  cases p with
  | none => rfl
  | some p => cases h : p.derived <;> simp [probeBlock, natBytes_length, h]

theorem OutSettings.block_length (o : OutSettings) : o.block.length = 8 := by
  simp [OutSettings.block, natBytes_length]

theorem State.changeBlock_length (s : State) : s.changeBlock.length = 12 := by
  unfold State.changeBlock
  cases s.chg <;> simp [natBytes_length]

theorem Totals.block_length (t : Totals) : t.block.length = 44 := by
  simp [Totals.block, natBytes_length]

/-! ## QUERY-SLOT (R22) -/

/-- The profile and the map of a slot in QUERY-SLOT, zeros for an UNCONFIGURED one. -/
def Slot.setupBlock (sl : Slot) : List Byte :=
  match sl.setup with
  | none => List.replicate 35 0
  | some su => su.profile.block ++ mapBlock su.map

theorem Slot.setupBlock_length (sl : Slot) : sl.setupBlock.length = 35 := by
  unfold Slot.setupBlock
  split
  · rfl
  · simp [Profile.block_length, mapBlock_length]

/-- Nine bytes stand before the profile. -/
theorem State.slotBody_drop (s : State) (i : SlotNo) :
    (s.slotBody i).drop 9 = (s.slot i).setupBlock ++ probeBlock (s.slot i).lastProbe := rfl

theorem State.slotBody_length (s : State) (i : SlotNo) : (s.slotBody i).length = 61 := by
  have whole : (s.slotBody i).length = 9 + ((s.slotBody i).drop 9).length := by
    rw [List.length_drop]
    exact (Nat.add_sub_cancel' (Nat.le_add_left 9 _)).symm
  rw [whole, State.slotBody_drop, List.length_append, Slot.setupBlock_length, probeBlock_length]

/-! ## QUERY-OUTPUT (R115) -/

/-- The staged map in QUERY-OUTPUT, zeros where none is staged. -/
def Output.stagedBlock (o : Output) : List Byte :=
  match o.stagedMap with
  | some m => mapBlock m
  | none => List.replicate 15 0

theorem Output.stagedBlock_length (o : Output) : o.stagedBlock.length = 15 := by
  unfold Output.stagedBlock
  split
  · exact mapBlock_length _
  · rfl

/-- The class settle deadline, the previous signature and the stall count in QUERY-OUTPUT. -/
def State.pictureBlock (s : State) : List Byte :=
  natBytes 2 (s.left (some s.classDeadline)) ++ natBytes 2 (match s.sampler.prev with | some x => x.toNat | none => 0) ++
    natBytes 2 s.sampler.stall

/-- Seventeen bytes stand before the settings. -/
theorem State.outputBody_drop (s : State) :
    s.outputBody.drop 17 = s.settings.block ++ (s.changeBlock ++ (s.pictureBlock ++ s.out.stagedBlock)) := by
  simp only [State.outputBody, State.pictureBlock, List.append_assoc]
  rfl

theorem State.outputBody_length (s : State) : s.outputBody.length = 58 := by
  unfold State.outputBody
  cases e : s.out.stagedMap <;>
    simp [e, natBytes_length, OutSettings.block_length, State.changeBlock_length, mapBlock_length]

/-! ## QUERY-COIN (R149) -/

theorem State.coinBody_drop (s : State) : s.coinBody.drop 17 = s.coin.totals.block := by
  unfold State.coinBody
  cases e : s.coin.pulse <;> simp [e, natBytes]

theorem State.coinBody_length (s : State) : s.coinBody.length = 61 := by
  unfold State.coinBody
  cases e : s.coin.pulse <;> simp [e, natBytes_length, Totals.block_length]

/-! ## QUERY-TEST (R170, R184) -/

theorem Tester.part0_length (t : Tester) : t.part0.length = 24 := by
  unfold Tester.part0
  cases t.run <;> cases t.record <;> simp [padded_length, natBytes_length, lineBytes_length]

theorem Tester.partCounts_length (t : Tester) {first : Nat} (h : first = 0 ∨ first = 12) :
    (t.partCounts first).length = 49 := by
  unfold Tester.partCounts
  rcases h with rfl | rfl
  all_goals
    split
    · rfl
    · rfl

/-- Settles O20. -/
theorem replyLayouts : Obligations.ReplyLayouts := by
  refine ⟨fun s i => ⟨s.slotBody_length i, ?_, fun su setup => ?_⟩,
    fun s => ⟨s.outputBody_length, rfl, ?_, fun m staged => ?_⟩,
    fun s => ⟨s.coinBody_length, rfl, s.coinBody_drop⟩,
    fun t => ⟨?_, ?_, ?_, fun none => ?_, fun r some => ⟨?_, ?_, fun n => ?_⟩⟩,
    fun s => rfl, fun i n r p => ?_, fun sel a b => rfl, fun s i o c x n p => ⟨rfl, rfl, ?_, rfl, ?_, rfl, rfl⟩⟩
  · rw [show 44 = 9 + 35 from rfl, ← List.drop_drop, State.slotBody_drop, List.drop_left' (Slot.setupBlock_length _)]
  · have block : (s.slot i).setupBlock = su.profile.block ++ mapBlock su.map := by simp [Slot.setupBlock, setup]
    rw [show 29 = 9 + 20 from rfl, ← List.drop_drop, State.slotBody_drop, block, List.append_assoc,
      List.take_left' su.profile.block_length, List.drop_left' su.profile.block_length,
      List.take_left' (mapBlock_length _)]
    exact ⟨rfl, rfl⟩
  · rw [State.outputBody_drop, List.take_left' (OutSettings.block_length _)]
  · have block : s.out.stagedBlock = mapBlock m := by simp [Output.stagedBlock, staged]
    rw [show 43 = 17 + (8 + (12 + 6)) from rfl, ← List.drop_drop, State.outputBody_drop, ← List.drop_drop,
      List.drop_left' (OutSettings.block_length _), ← List.drop_drop, List.drop_left' (State.changeBlock_length _),
      List.drop_left' (by simp [State.pictureBlock, natBytes_length]), block]
  · simp [Tester.body, t.part0_length]
  · simp [Tester.body, t.partCounts_length (.inl rfl)]
  · simp [Tester.body, t.partCounts_length (.inr rfl)]
  · simp [Tester.body, Tester.partCounts, none]
  · simp [Tester.body, Tester.partCounts, some]
  · simp [Tester.body, Tester.partCounts, some]
  · simp only [Tester.body, Tester.partCounts, some]
    fin_cases n
    all_goals exact ⟨rfl, rfl⟩
  · simp [workCompletion, probeBlock_length]
  · unfold State.coinNoticeBody
    cases s.coin.pulse <;> rfl
  · simp [State.menuNoticeBody, padded_length, lineBytes_length]

end Sys2Proof.Machine

/-! What notices and the shared operations leave alone, and how the tasks of an event are done one after another. -/

namespace Sys2Proof.Machine

/-! ## Notices change the link only (R33, R177) -/

theorem State.notice_eq (s : State) (k : NoticeKey) (body : List Byte) :
    s.notice k body = { s with link := (s.notice k body).link } := by
  unfold State.notice
  split <;> rfl

theorem State.complete_eq (s : State) (tag : Byte) (body : List Byte) :
    s.complete tag body = { s with link := (s.complete tag body).link } := by
  rcases s.complete_cases tag body with ⟨-, e⟩ | ⟨-, e⟩ <;> rw [e] <;> rfl

@[simp] theorem State.notice_others (s : State) (k : NoticeKey) (body : List Byte) :
    (s.notice k body).now = s.now ∧ (s.notice k body).slots = s.slots ∧ (s.notice k body).supply = s.supply ∧
      (s.notice k body).taps = s.taps ∧ (s.notice k body).engines = s.engines ∧
      (s.notice k body).probeList = s.probeList ∧ (s.notice k body).settings = s.settings ∧
      (s.notice k body).classDeadline = s.classDeadline ∧ (s.notice k body).controls = s.controls ∧
      (s.notice k body).senses = s.senses ∧ (s.notice k body).sampler = s.sampler ∧
      (s.notice k body).tester = s.tester ∧ (s.notice k body).todo = s.todo := by
  rw [State.notice_eq]
  simp

@[simp] theorem State.complete_others (s : State) (tag : Byte) (body : List Byte) :
    (s.complete tag body).now = s.now ∧ (s.complete tag body).slots = s.slots ∧
      (s.complete tag body).supply = s.supply ∧ (s.complete tag body).taps = s.taps ∧
      (s.complete tag body).engines = s.engines ∧ (s.complete tag body).probeList = s.probeList ∧
      (s.complete tag body).settings = s.settings ∧ (s.complete tag body).classDeadline = s.classDeadline ∧
      (s.complete tag body).controls = s.controls ∧ (s.complete tag body).senses = s.senses ∧
      (s.complete tag body).sampler = s.sampler ∧ (s.complete tag body).tester = s.tester ∧
      (s.complete tag body).todo = s.todo := by
  rw [State.complete_eq]
  simp

@[simp] theorem State.notice_reads (s : State) (k : NoticeKey) (body : List Byte) :
    (s.notice k body).slot = s.slot ∧ (s.notice k body).queue = s.queue ∧ (s.notice k body).tap = s.tap ∧
      (s.notice k body).engine = s.engine ∧ (s.notice k body).profile = s.profile := by
  rw [State.notice_eq]
  exact ⟨rfl, rfl, rfl, rfl, rfl⟩

@[simp] theorem State.complete_reads (s : State) (tag : Byte) (body : List Byte) :
    (s.complete tag body).slot = s.slot ∧ (s.complete tag body).queue = s.queue ∧ (s.complete tag body).tap = s.tap ∧
      (s.complete tag body).engine = s.engine ∧ (s.complete tag body).profile = s.profile := by
  rw [State.complete_eq]
  exact ⟨rfl, rfl, rfl, rfl, rfl⟩

theorem State.notice_link (s : State) (k : NoticeKey) (body : List Byte) :
    (s.notice k body).link = { s.link with txq := (s.notice k body).link.txq } := by
  unfold State.notice
  split <;> rfl

theorem State.releaseHeld_eq (s : State) : s.releaseHeld = { s with link := s.releaseHeld.link } := by
  rcases s.releaseHeld_cases with ⟨m, rest, -, -, e⟩ | ⟨-, e⟩ <;> rw [e]

theorem State.placeFreed_eq {s : State} (waiting : s.link.waiting = none) :
    s.placeFreed = { s with link := s.placeFreed.link } := by
  unfold State.placeFreed
  rw [waiting]
  split
  · exact s.releaseHeld_eq
  · rfl

/-- With no request waiting, the beginning of a message changes the link only (R176). -/
theorem State.beginMessage_eq {s : State} (waiting : s.link.waiting = none) :
    s.beginMessage = { s with link := s.beginMessage.link } := by
  unfold State.beginMessage
  split
  · dsimp only
    split
    · exact State.placeFreed_eq (s := s.modLink _) waiting
    · rfl
  · rfl

/-- A link that takes requests has none waiting. -/
theorem State.TakesRequests.waiting {s : State} (h : s.TakesRequests) : s.link.waiting = none := by
  have clear : s.link.clear = true := h.2.1
  simp only [Link.clear, Link.taking, Bool.and_eq_true, Option.isNone_iff_eq_none] at clear
  exact clear.1.1.1.1

/-! ## Tasks that wait meanwhile change nothing in what an operation does (log 17) -/

@[simp] theorem State.push_push (s : State) (xs ys : List Task) : (s.push ys).push xs = s.push (xs ++ ys) := by
  simp [State.push]

@[simp] theorem State.push_nil (s : State) : s.push [] = s := rfl

theorem State.ite_push (c : Prop) [Decidable c] (s t : State) (ts : List Task) :
    (if c then s else t).push ts = if c then s.push ts else t.push ts := by
  split <;> rfl

@[simp] theorem State.notice_push (s : State) (ts : List Task) (k : NoticeKey) (body : List Byte) :
    (s.push ts).notice k body = (s.notice k body).push ts := by
  unfold State.notice
  rw [State.ite_push]
  rfl

@[simp] theorem State.complete_push (s : State) (ts : List Task) (tag : Byte) (body : List Byte) :
    (s.push ts).complete tag body = (s.complete tag body).push ts := by
  unfold State.complete
  rw [State.ite_push]
  rfl

@[simp] theorem State.coinNotice_push (s : State) (ts : List Task) (cause : CoinCause) :
    (s.push ts).coinNotice cause = (s.coinNotice cause).push ts := s.notice_push ts _ _

@[simp] theorem State.outNotice_push (s : State) (ts : List Task) (cause : OutCause) :
    (s.push ts).outNotice cause = (s.outNotice cause).push ts := s.notice_push ts _ _

@[simp] theorem State.slotNotice_push (s : State) (ts : List Task) (i : SlotNo) :
    (s.push ts).slotNotice i = (s.slotNotice i).push ts := s.notice_push ts _ _

@[simp] theorem State.setState_push (s : State) (ts : List Task) (i : SlotNo) (st : SlotState) :
    (s.push ts).setState i st = (s.setState i st).push ts := by
  unfold State.setState
  rw [State.ite_push, ← State.slotNotice_push]
  rfl

theorem State.payoutTest_cases (s : State) :
    (∃ i p, s.coin.pulse = none ∧ s.payoutProfile = some (i, p) ∧ s.senseAsserted i p.drive = false ∧
      p.units ≤ s.coin.bank ∧ s.payoutTest = s.beginPulse i p) ∨
    ((∀ i p, s.coin.pulse = none → s.payoutProfile = some (i, p) → s.senseAsserted i p.drive = false →
      ¬ p.units ≤ s.coin.bank) ∧ s.payoutTest = s) := by
  unfold State.payoutTest
  split
  next i p free profile =>
    split
    next holds =>
      obtain ⟨released, banked⟩ := Bool.and_eq_true_iff.mp holds
      exact .inl ⟨i, p, free, profile, by simpa using released, of_decide_eq_true banked, rfl⟩
    next fails =>
      refine .inr ⟨fun j q _ other released banked => fails ?_, rfl⟩
      cases profile.symm.trans other
      simp [released, banked]
  next other => exact .inr ⟨fun i p free profile _ => absurd profile (other i p free), rfl⟩

@[simp] theorem State.payoutTest_todo (s : State) : s.payoutTest.todo = s.todo := by
  rcases s.payoutTest_cases with ⟨i, p, -, -, -, -, e⟩ | ⟨-, e⟩ <;> rw [e]
  simp [State.beginPulse, State.coinNotice]

/-! ## Doing the tasks (log 18) -/

/-- The first task is done on the state in which the others wait. -/
theorem run_push (n : Nat) (s : State) (x : Task) (xs : List Task) :
    run (n + 1) (s.push (x :: xs)) = run n ((s.push xs).doTask x) := rfl

theorem State.cascade_push_one {s : State} {x : Task} (done : (s.doTask x).todo = []) :
    (s.push [x]).cascade = s.doTask x :=
  (run_push 4095 s x []).trans (run_of_no_task _ _ done)

/-- An event that brings about one task. -/
theorem State.finish_push_one {s : State} {x : Task} (done : (s.doTask x).todo = []) :
    (s.push [x]).finish = (s.doTask x).beginMessage := by
  rw [State.finish, State.cascade_push_one done]

/-- A command that brings about one task. -/
theorem live_push_one {dt : Nat} {effect : State → State} {s u : State} {x : Task} (h : s.Between)
    (e : effect (s.advance dt) = u.push [x]) (done : (u.doTask x).todo = []) :
    live dt effect s = .next (u.doTask x).beginMessage := by
  rw [live_of_between _ _ _ h, e, State.finish_push_one done]

/-- A request that brings about one task. -/
theorem request_push_one {dt : Nat} {tag : Byte} {op : ReqOp} {s u : State} {x : Task} (h : s.TakesRequests)
    (e : (s.received dt).takeRequest { tag := tag, op := op } = u.push [x]) (done : (u.doTask x).todo = []) :
    request dt tag op s = .next (u.doTask x).beginMessage := by
  rw [request_of_takes dt tag op s h, e, State.cascade_push_one done, State.finish_of_no_task _ done]

end Sys2Proof.Machine

/-! Settings: profiles, slots, trims, maps, chords, the output and the cabinet. -/

namespace Sys2Proof.Machine

/-! ## Codes (R183) -/

theorem policyOf_eq (b : Byte) :
    policyOf b = if 1 < b.toNat then none else some (if b = 0 then .keep else .shed) := by
  by_cases zero : b = 0
  · subst zero; rfl
  by_cases one : b = 1
  · subst one; rfl
  have large : 1 < b.toNat := by bv_omega
  rw [policyOf, if_neg zero, if_neg one, if_pos large]

theorem stallPolicyOf_eq (b : Byte) :
    stallPolicyOf b = if 1 < b.toNat then none else some (if b = 0 then .notify else .restart) := by
  by_cases zero : b = 0
  · subst zero; rfl
  by_cases one : b = 1
  · subst one; rfl
  have large : 1 < b.toNat := by bv_omega
  rw [stallPolicyOf, if_neg zero, if_neg one, if_pos large]

theorem polarityOf_eq (b : Byte) :
    polarityOf b = if 1 < b.toNat then none else some (if b = 0 then .lowAssert else .highAssert) := by
  by_cases zero : b = 0
  · subst zero; rfl
  by_cases one : b = 1
  · subst one; rfl
  have large : 1 < b.toNat := by bv_omega
  rw [polarityOf, if_neg zero, if_neg one, if_pos large]

theorem coinDriveOf_eq (b : Byte) :
    coinDriveOf b = if 2 < b.toNat then none else
      some (if b = 0 then none else some (if b = 1 then .c1 else .c2)) := by
  by_cases zero : b = 0
  · subst zero; rfl
  by_cases one : b = 1
  · subst one; rfl
  by_cases two : b = 2
  · subst two; rfl
  have large : 2 < b.toNat := by bv_omega
  rw [coinDriveOf, if_neg zero, if_neg one, if_neg two, if_pos large]

theorem meterOf_eq_none (b : Byte) : meterOf b = none ↔ 2 < b.toNat := by
  by_cases zero : b = 0
  · subst zero; decide
  by_cases one : b = 1
  · subst one; decide
  by_cases two : b = 2
  · subst two; decide
  have large : 2 < b.toNat := by bv_omega
  rw [meterOf, if_neg zero, if_neg one, if_neg two]
  exact iff_of_true rfl large

/-! ## The profile (R2) -/

/-- Settles O22, field by field. -/
theorem profileStoredClamped : Obligations.ProfileStoredClamped := by
  intro r
  unfold storeProfile
  rw [policyOf_eq, stallPolicyOf_eq, polarityOf_eq, coinDriveOf_eq]
  by_cases policy : 1 < r.powerPolicy.toNat
  · simp [policy]
  by_cases stall : 1 < r.stallPolicy.toNat
  · simp [policy, stall]
  by_cases polarity : 1 < r.polarity.toNat
  · simp [policy, stall, polarity]
  by_cases drive : 2 < r.coinDrive.toNat
  · simp [policy, stall, polarity, drive]
  simp only [policy, stall, polarity, drive, if_false, or_self, reduceCtorEq, true_and,
    Option.some.injEq]
  rintro p rfl
  refine ⟨rfl, rfl, Nat.zero_max .., Nat.zero_max .., rfl, ?_, rfl, rfl, rfl, rfl, ?_⟩
  · have zero : r.stallLimit.toNat = 0 ↔ r.stallLimit = 0 := by bv_omega
    simp only [clampStall, zero]
    rfl
  · dsimp only
    split
    · rfl
    · rfl

/-! ## The output and the cabinet (R72, R133) -/

theorem storeOutput_eq (r : RawOutput) :
    storeOutput r =
      if r.classes = 0 ∨ 8 ≤ r.classes.toNat ∨ clamp 4000 7500 r.windowHigh.toNat < clamp 4000 7500 r.windowLow.toNat then
        none
      else some
        { acceptLow := r.classes.getLsbD 0, acceptMedium := r.classes.getLsbD 1, acceptHigh := r.classes.getLsbD 2
          windowLow := clamp 4000 7500 r.windowLow.toNat, windowHigh := clamp 4000 7500 r.windowHigh.toNat
          settle := clamp 100 2000 r.settle.toNat, timeout := clamp 5 120 r.timeout.toNat } := rfl

theorem State.takeSetOutput_of_none {s : State} {r : RawOutput} (e : storeOutput r = none) (tag : Byte) :
    s.takeSetOutput tag r = s.reply 0x04 tag [2, 4] := by
  unfold State.takeSetOutput
  rw [e]
  rfl

theorem State.takeSetOutput_of_some {s : State} {r : RawOutput} {set : OutSettings} (e : storeOutput r = some set)
    (tag : Byte) : s.takeSetOutput tag r = State.reply { s with settings := set } 0x04 tag (0 :: set.block) := by
  unfold State.takeSetOutput
  rw [e]
  rfl

theorem storeCabinet_eq_none (r : RawCabinet) :
    storeCabinet r = none ↔
      2 < r.meterA.toNat ∨ 2 < r.meterB.toNat ∨ clamp 5 500 r.pulseMax.toNat < clamp 5 500 r.pulseMin.toNat := by
  rw [← meterOf_eq_none, ← meterOf_eq_none]
  unfold storeCabinet
  split
  next mA mB eA eB => simp [eA, eB]
  next other =>
    refine iff_of_true rfl ?_
    cases eA : meterOf r.meterA with
    | none => exact .inl rfl
    | some mA =>
      cases eB : meterOf r.meterB with
      | none => exact .inr (.inl rfl)
      | some mB => exact absurd eB (other mA mB eA)

theorem State.takeSetCabinet_of_none {s : State} {r : RawCabinet} (e : storeCabinet r = none) (tag : Byte) :
    s.takeSetCabinet tag r = s.reply 0x05 tag [2, 4] := by
  unfold State.takeSetCabinet
  rw [e]
  rfl

theorem State.takeSetCabinet_of_some {s : State} {r : RawCabinet} {set : CoinSettings} {level : Nat}
    (e : storeCabinet r = some (set, level)) (tag : Byte) :
    s.takeSetCabinet tag r =
      ((State.reply { s with coin := { s.coin with settings := set }, supply := { s.supply with level := level } } 0x05
        tag (0 :: cabinetBlock set level)).rejudge .a).rejudge .b := by
  unfold State.takeSetCabinet
  rw [e]
  rfl

/-- Whether a closure in progress has lasted the maximum (R133). -/
def CoinUnit.overdue (c : CoinUnit) (now : Nat) (x : CoinInput) : Prop :=
  (c.input x).state = .timing ∧ c.settings.pulseMax * 48000 ≤ now - (c.input x).since

/-- A closure that has not lasted the new maximum is left as it is (R133). -/
theorem State.rejudge_of_not {s : State} {x : CoinInput} (h : ¬ s.coin.overdue s.now x) : s.rejudge x = s := if_neg h

theorem State.rejudge_of {s : State} {x : CoinInput} (h : s.coin.overdue s.now x) : s.rejudge x = s.jam x := if_pos h

theorem CoinInput.eq_of_ne_of_ne {x y z : CoinInput} (hx : x ≠ y) (hz : z ≠ y) : x = z := by
  cases x <;> cases y <;> cases z <;> simp at hx hz ⊢

theorem CoinUnit.setInput_input (c : CoinUnit) (x y : CoinInput) (r : CoinIn) :
    (c.setInput x r).input y = if y = x then r else c.input y := by
  cases x <;> cases y <;> rfl

/-- A jam of one input: its state, its total and the link change (R139). -/
theorem State.jam_spec (s : State) (x : CoinInput) :
    s.jam x = { s with
      coin := { s.coin.setInput x { s.coin.input x with state := .jam } with totals := s.coin.totals.countJam x }
      link := { s.link with txq := (s.jam x).link.txq } } := by
  unfold State.jam State.coinNotice
  rw [State.notice_eq, State.notice_link]
  cases x <;> rfl

/-- What a new judgement of one input can change: that input's state, the totals and the link (R133). -/
theorem State.rejudge_spec (s : State) (x : CoinInput) :
    s.rejudge x = { s with
      coin := { s.coin with inA := (s.rejudge x).coin.inA, inB := (s.rejudge x).coin.inB, totals := (s.rejudge x).coin.totals }
      link := { s.link with txq := (s.rejudge x).link.txq } } := by
  by_cases h : s.coin.overdue s.now x
  · rw [State.rejudge_of h, State.jam_spec]
    cases x <;> rfl
  · rw [State.rejudge_of_not h]

open Classical in
theorem State.rejudge_input (s : State) (x y : CoinInput) :
    (s.rejudge x).coin.input y =
      if y = x ∧ s.coin.overdue s.now x then { s.coin.input x with state := .jam } else s.coin.input y := by
  by_cases h : s.coin.overdue s.now x
  · rw [State.rejudge_of h, State.jam_spec]
    simp only [h, and_true]
    rw [← CoinUnit.setInput_input]
    cases x <;> rfl
  · rw [State.rejudge_of_not h, if_neg (fun e => h e.2)]

/-- The state after SET-CABINET has been stored and answered, before closures in progress are judged again. -/
def State.cabinetStored (s : State) (set : CoinSettings) (level : Nat) : State :=
  { s with coin := { s.coin with settings := set }, supply := { s.supply with level := level } }

theorem exec_setCabinet_of_stored {dt : Nat} {tag : Byte} {r : RawCabinet} {s : State} (h : s.TakesRequests)
    {set : CoinSettings} {level : Nat} (stored : storeCabinet r = some (set, level)) :
    let kept := (s.received dt).cabinetStored set level
    let overdue (x : CoinInput) : Prop :=
      (s.coin.input x).state = .timing ∧ set.pulseMax * 48000 ≤ s.now + dt - (s.coin.input x).since
    ((∀ x, ¬ overdue x) →
      exec (.setCabinet dt tag r) s = .next (kept.replied 0x05 tag (0 :: cabinetBlock set level))) ∧
    ∃ t, exec (.setCabinet dt tag r) s = .next t ∧
      t = { kept with coin := { t.coin with settings := set, bank := s.coin.bank, pulse := s.coin.pulse }, link := t.link } ∧
      ∀ x, (overdue x → (t.coin.input x).state = .jam) ∧
        (¬ overdue x → (t.coin.input x).state = (s.coin.input x).state) := by
  intro kept overdue
  have taken : (s.received dt).takeRequest { tag := tag, op := .setCabinet r } =
      ((kept.reply 0x05 tag (0 :: cabinetBlock set level)).rejudge .a).rejudge .b :=
    State.takeSetCabinet_of_some stored tag
  generalize answered : kept.reply 0x05 tag (0 :: cabinetBlock set level) = v at taken
  have overdue_iff (x : CoinInput) : v.coin.overdue v.now x ↔ overdue x := by
    subst answered
    cases x <;> rfl
  have bare : ((v.rejudge .a).rejudge .b).todo = [] := by
    rw [State.rejudge_spec, State.rejudge_spec]
    subst answered
    exact h.todo
  have done := request_of_bare h (by rw [taken]; exact bare)
  rw [taken] at done
  have waiting : ((v.rejudge .a).rejudge .b).link.waiting = none := by
    rw [State.rejudge_spec, State.rejudge_spec, ← answered]
    exact h.waiting
  refine ⟨fun none => done.trans ?_, _, done, ?_, fun x => ?_⟩
  · have a : v.rejudge .a = v := State.rejudge_of_not (mt (overdue_iff _).mp (none _))
    have b : v.rejudge .b = v := State.rejudge_of_not (mt (overdue_iff _).mp (none _))
    rw [a, b, ← answered, State.replied]
  · rw [State.beginMessage_eq waiting, State.rejudge_spec, State.rejudge_spec v, ← answered]
    rfl
  · have begun : ((v.rejudge .a).rejudge .b).beginMessage.coin = ((v.rejudge .a).rejudge .b).coin := by
      rw [State.beginMessage_eq waiting]
    have input : v.coin.input x = s.coin.input x := by
      subst answered
      cases x <;> rfl
    have overdue_b : (v.rejudge .a).coin.overdue (v.rejudge .a).now .b ↔ overdue .b := by
      rw [← overdue_iff, CoinUnit.overdue, State.rejudge_input, if_neg (fun e => nomatch e.1), State.rejudge_spec]
      rfl
    rw [begun, State.rejudge_input, overdue_b]
    cases x <;> exact ⟨fun late => by simp [State.rejudge_input, overdue_iff, late],
      fun early => by simp [State.rejudge_input, overdue_iff, early, input]⟩

/-- Settles O21. -/
theorem outputAndCabinetSettingsStored : Obligations.OutputAndCabinetSettingsStored := by
  refine ⟨fun dt tag r s h => ⟨fun some few ordered => ?_, fun bad => ?_⟩,
    fun dt tag r s h => ⟨fun mA mB eA eB ordered => ?_, fun bad => ?_⟩⟩
  · have good : ¬ (r.classes = 0 ∨ 8 ≤ r.classes.toNat ∨
        clamp 4000 7500 r.windowHigh.toNat < clamp 4000 7500 r.windowLow.toNat) := by
      rintro (none | many | crossed)
      · exact some none
      · exact absurd few (Nat.not_lt.mpr many)
      · exact absurd ordered (Nat.not_le.mpr crossed)
    have taken : (s.received dt).takeRequest { tag := tag, op := .setOutput r } = _ :=
      State.takeSetOutput_of_some ((storeOutput_eq r).trans (if_neg good)) tag
    exact (request_of_bare h (by rw [taken]; exact h.todo)).trans (by rw [taken]; rfl)
  · exact request_replied h (State.takeSetOutput_of_none ((storeOutput_eq r).trans (if_pos bad)) tag)
  · intro stored level kept overdue
    refine exec_setCabinet_of_stored h (set := stored) (level := level) ?_
    unfold storeCabinet
    rw [eA, eB]
    exact if_neg (Nat.not_lt.mpr ordered)
  · exact request_replied h (State.takeSetCabinet_of_none ((storeCabinet_eq_none r).mpr bad) tag)

/-! ## The chord (R130) -/

theorem lineOf_eq_none (b : Byte) : lineOf b = none ↔ 23 < b.toNat := by
  unfold lineOf
  split <;> simp <;> omega

theorem lineOf_eq_some (b : Byte) (n : LineNo) : lineOf b = some n ↔ b.toNat = n.val := by
  unfold lineOf
  split
  next small => rw [Option.some.injEq, Fin.ext_iff]
  next large => exact iff_of_false nofun fun e => large (e ▸ n.isLt)

theorem mapM_eq_some_cons {α β : Type} {f : α → Option β} {x : α} {l : List α} {m : List β} :
    (x :: l).mapM f = some m ↔ ∃ y ys, f x = some y ∧ l.mapM f = some ys ∧ m = y :: ys := by
  simp only [List.mapM_cons, Option.bind_eq_bind, Option.bind_eq_some_iff]
  constructor
  · rintro ⟨y, ey, ys, eys, e⟩
    exact ⟨y, ys, ey, eys, (Option.some.inj e).symm⟩
  · rintro ⟨y, ys, ey, eys, rfl⟩
    exact ⟨y, ey, ys, eys, rfl⟩

/-- A list reads as a whole unless one of its elements does not read. -/
theorem mapM_eq_none_iff {α β : Type} {f : α → Option β} {l : List α} : l.mapM f = none ↔ ∃ x ∈ l, f x = none := by
  induction l with
  | nil => simp
  | cons x l ih =>
    simp only [List.mapM_cons, Option.bind_eq_bind, List.mem_cons, exists_eq_or_imp, ← ih]
    cases f x with
    | none => simp
    | some y => cases l.mapM f <;> simp

/-- Element n of what a list reads as is what its element n reads as. -/
theorem mapM_getElem? {α β : Type} {f : α → Option β} {l : List α} {m : List β} (h : l.mapM f = some m) (n : Nat) :
    m[n]? = l[n]?.bind f := by
  induction l generalizing m n with
  | nil =>
    cases h
    rfl
  | cons x l ih =>
    obtain ⟨y, ys, ey, eys, rfl⟩ := mapM_eq_some_cons.mp h
    cases n with
    | zero => simp [ey]
    | succ n => simpa using ih eys n

theorem mem_of_mapM {α β : Type} {f : α → Option β} {l : List α} {m : List β} (h : l.mapM f = some m) (y : β) :
    y ∈ m ↔ ∃ x ∈ l, f x = some y := by
  simp only [List.mem_iff_getElem?, mapM_getElem? h, Option.bind_eq_some_iff]
  exact ⟨fun ⟨n, x, at_n, e⟩ => ⟨x, ⟨n, at_n⟩, e⟩, fun ⟨x, ⟨n, at_n⟩, e⟩ => ⟨n, x, at_n, e⟩⟩

/-- SET-CHORD's list is refused exactly for a bad count or a line above 23 within it (R130). -/
theorem storeChord_eq_none (r : RawChord) :
    storeChord r = none ↔ r.count = 0 ∨ 4 < r.count.toNat ∨
      ∃ b ∈ [r.line0, r.line1, r.line2, r.line3].take r.count.toNat, 23 < b.toNat := by
  have zero : r.count = 0 ↔ r.count.toNat = 0 := by bv_omega
  rw [storeChord_eq, zero]
  split
  next counted =>
    rw [Option.map_eq_none_iff, mapM_eq_none_iff]
    simp only [lineOf_eq_none]
    exact ⟨fun h => .inr (.inr h), fun h => (h.resolve_left (by omega)).resolve_left (by omega)⟩
  next uncounted => exact iff_of_true rfl (by omega)

/-- The lines SET-CHORD stores are those named within the count (R130). -/
theorem mem_of_storeChord {r : RawChord} {lines : List LineNo} {time : Nat} (h : storeChord r = some (lines, time))
    (n : LineNo) :
    n ∈ lines ↔ ∃ b ∈ [r.line0, r.line1, r.line2, r.line3].take r.count.toNat, b.toNat = n.val := by
  rw [storeChord_eq] at h
  split at h
  · obtain ⟨l, read, e⟩ := Option.map_eq_some_iff.mp h
    cases e
    simp only [mem_eachOnce, List.not_mem_nil, false_or, mem_of_mapM read, lineOf_eq_some]
  · cases h

theorem time_of_storeChord {r : RawChord} {lines : List LineNo} {time : Nat} (h : storeChord r = some (lines, time)) :
    time = clamp 250 5000 r.hold.toNat := by
  rw [storeChord_eq] at h
  split at h
  · obtain ⟨l, read, e⟩ := Option.map_eq_some_iff.mp h
    cases e
    rfl
  · cases h

theorem Controls.freshChord_of_held {c : Controls} (h : ∀ n ∈ c.chordLines, c.panel.getLsbD n.val = true) (now : Nat) :
    c.freshChord now = { c with chord := .timing, chordEnd := some (now + c.holdTime * 48000) } :=
  if_pos (List.all_eq_true.mpr h)

theorem Controls.freshChord_of_open {c : Controls} (h : ∃ n ∈ c.chordLines, c.panel.getLsbD n.val = false) (now : Nat) :
    c.freshChord now = { c with chord := .idle, chordEnd := none } := by
  obtain ⟨n, member, released⟩ := h
  refine if_neg fun held => ?_
  rw [List.all_eq_true.mp held n member] at released
  cases released

theorem State.takeSetChord_of_none {s : State} {r : RawChord} (e : storeChord r = none) (tag : Byte) :
    s.takeSetChord tag r = s.reply 0x09 tag [2, 4] := by
  unfold State.takeSetChord
  rw [e]
  rfl

theorem State.takeSetChord_of_some {s : State} {r : RawChord} {lines : List LineNo} {time : Nat}
    (e : storeChord r = some (lines, time)) (tag : Byte) :
    s.takeSetChord tag r =
      State.reply { s with
        controls := Controls.freshChord { s.controls with chordLines := lines, holdTime := time } s.now } 0x09 tag
        (0 :: (Controls.freshChord { s.controls with chordLines := lines, holdTime := time } s.now).chordBlock) := by
  unfold State.takeSetChord
  rw [e]
  rfl

/-- Settles O25. -/
theorem setChordStartsAfresh : Obligations.SetChordStartsAfresh := by
  refine ⟨fun r => ⟨storeChord_eq_none r, fun lines time stored => ?_⟩, fun dt tag r s h => ⟨fun bad => ?_,
    fun lines time stored => ?_⟩⟩
  · obtain ⟨-, some, few, nodup⟩ := storeChord_inRange stored Controls.reset
    exact ⟨time_of_storeChord stored, nodup, some, few, mem_of_storeChord stored⟩
  · exact request_replied h (State.takeSetChord_of_none bad tag)
  · have taken : (s.received dt).takeRequest { tag := tag, op := .setChord r } = _ :=
      State.takeSetChord_of_some stored tag
    have done := (request_of_bare h (by rw [taken]; exact h.todo))
    rw [taken] at done
    refine ⟨fun held => done.trans ?_, fun free => done.trans ?_⟩
    · rw [Controls.freshChord_of_held held]
      rfl
    · rw [Controls.freshChord_of_open free]
      rfl

/-! ## Trims and maps (R75, R122) -/

theorem mapSourceOf_eq_none (b : Byte) : mapSourceOf b = none ↔ 25 < b.toNat := by
  unfold mapSourceOf
  split
  · exact iff_of_false nofun (by omega)
  split
  next e => subst e; decide
  split
  next e => subst e; decide
  · exact iff_of_true rfl (by bv_omega)

theorem mapSourceOf_code (e : MapSource) (b : Byte) (h : e.code = b.toNat) : mapSourceOf b = some e := by
  unfold mapSourceOf
  cases e with
  | panel n =>
    have code : n.val = b.toNat := h
    rw [dif_pos (by omega)]
    exact congrArg _ (congrArg _ (Fin.ext code.symm))
  | released =>
    have code : 24 = b.toNat := h
    rw [dif_neg (by omega), if_pos (by bv_omega)]
  | asserted =>
    have code : 25 = b.toNat := h
    rw [dif_neg (by omega), if_neg (by bv_omega), if_pos (by bv_omega)]

theorem mem_allLines (n : LineNo) : n ∈ allLines := by revert n; decide

theorem perLine_getElem {α : Type} (f : LineNo → α) (n : LineNo) : (perLine f)[n.val] = f n := by
  fin_cases n <;> rfl

theorem readMapSources_eq_none {v : Vector Byte 24} (h : ∃ n : LineNo, 25 < v[n].toNat) : readMapSources v = none := by
  obtain ⟨n, large⟩ := h
  refine if_neg fun all => ?_
  have read := List.all_eq_true.mp all n (mem_allLines n)
  rw [(mapSourceOf_eq_none v[n.val]).mpr large] at read
  cases read

theorem readMapSources_eq_some {v : Vector Byte 24} {m : InputMap} (h : ∀ n : LineNo, m[n].code = v[n].toNat) :
    readMapSources v = some m := by
  have read (n : LineNo) : mapSourceOf v[n.val] = some m[n.val] := mapSourceOf_code _ _ (h n)
  unfold readMapSources
  rw [if_pos (List.all_eq_true.mpr fun n _ => by simp [read])]
  refine congrArg _ (Vector.ext fun n small => ?_)
  rw [perLine_getElem _ ⟨n, small⟩, read ⟨n, small⟩]
  rfl

theorem State.storeLevel_eq {s : State} {i : SlotNo} {su : Setup} (h : (s.slot i).setup = some su) (n : Nat) :
    s.storeLevel i n =
      s.modSlot i fun sl => { sl with setup := some { su with profile := { su.profile with audioLevel := n } } } := by
  simp [State.storeLevel, State.modSetup, State.modSlot, h]

theorem State.storeMap_eq {s : State} {i : SlotNo} {su : Setup} (h : (s.slot i).setup = some su) (m : InputMap) :
    s.storeMap i m = s.modSlot i fun sl => { sl with setup := some { su with map := m } } := by
  simp [State.storeMap, State.modSetup, State.modSlot, h]

theorem State.takeSetTrim_of_configured {s : State} {slot : Byte} {i : SlotNo} (named : slotOf slot = some i)
    (configured : (s.slot i).setup ≠ none) (tag level : Byte) :
    s.takeSetTrim tag slot level =
      State.reply (if s.isSource i then s.modOut fun o => { o with stagedLevel := some (clamp 0 62 level.toNat) }
          else s.storeLevel i (clamp 0 62 level.toNat)) 0x08 tag
        [0, byteOf i.val, byteOf (clamp 0 62 level.toNat), byteOf (bit (s.isSource i))] := by
  unfold State.takeSetTrim
  rw [named]
  exact if_neg (by simpa using configured)

theorem State.takeSetMap_of_configured {s : State} {slot : Byte} {i : SlotNo} (named : slotOf slot = some i)
    (configured : (s.slot i).setup ≠ none) {v : Vector Byte 24} {m : InputMap} (read : readMapSources v = some m)
    (tag : Byte) :
    s.takeSetMap tag slot v =
      State.reply (if s.isSource i then s.modOut fun o => { o with stagedMap := some m } else s.storeMap i m) 0x07 tag
        (0 :: byteOf (bit (s.isSource i)) :: byteOf i.val :: m.toList.map fun e => byteOf e.code) := by
  unfold State.takeSetMap
  rw [named]
  refine (if_neg (by simpa using configured)).trans ?_
  rw [read]
  rfl

/-- Settles O24. -/
theorem trimAndMapStoredOrStaged : Obligations.TrimAndMapStoredOrStaged := by
  have low (n : Nat) : clamp 0 62 n = min 62 n := Nat.zero_max _
  intro dt tag slot level v s h
  have shown {i : SlotNo} (e : s.out.source = some i) : (s.received dt).isSource i = true := decide_eq_true e
  have unshown {i : SlotNo} (e : s.out.source ≠ some i) : (s.received dt).isSource i = false := decide_eq_false e
  refine ⟨fun large => ⟨request_replied h ?_, request_replied h ?_⟩, fun i val =>
    ⟨fun unset => ⟨request_replied h ?_, request_replied h ?_⟩, fun su set => ⟨fun source => ?_, fun other => ?_,
      fun bad => request_replied h ?_, fun m codes => ⟨fun source => ?_, fun other => ?_⟩⟩⟩⟩
  · simp [State.takeRequest, State.takeSetTrim, slotOf_of_large large, State.refuse, refusedBody, Reason.code]
  · simp [State.takeRequest, State.takeSetMap, slotOf_of_large large, State.refuse, refusedBody, Reason.code]
  · simp [State.takeRequest, State.takeSetTrim, slotOf_of_val val, unset, State.refuse, refusedBody, Reason.code]
  · simp [State.takeRequest, State.takeSetMap, slotOf_of_val val, unset, State.refuse, refusedBody, Reason.code]
  · have taken : (s.received dt).takeRequest { tag := tag, op := .setTrim slot level } = _ :=
      State.takeSetTrim_of_configured (slotOf_of_val val) (by simp [set]) tag level
    rw [low, shown source] at taken
    exact (request_of_bare h (by rw [taken]; exact h.todo)).trans (by rw [taken]; rfl)
  · have taken : (s.received dt).takeRequest { tag := tag, op := .setTrim slot level } = _ :=
      State.takeSetTrim_of_configured (slotOf_of_val val) (by simp [set]) tag level
    rw [low, unshown other, if_neg Bool.false_ne_true, State.storeLevel_eq (s := s.received dt) set] at taken
    exact (request_of_bare h (by rw [taken]; exact h.todo)).trans (by rw [taken]; rfl)
  · simp [State.takeRequest, State.takeSetMap, slotOf_of_val val, set, readMapSources_eq_none bad, State.refuse,
      refusedBody, Reason.code]
  · have taken : (s.received dt).takeRequest { tag := tag, op := .setMap slot v } = _ :=
      State.takeSetMap_of_configured (slotOf_of_val val) (by simp [set]) (readMapSources_eq_some codes) tag
    rw [shown source] at taken
    exact (request_of_bare h (by rw [taken]; exact h.todo)).trans (by rw [taken]; rfl)
  · have taken : (s.received dt).takeRequest { tag := tag, op := .setMap slot v } = _ :=
      State.takeSetMap_of_configured (slotOf_of_val val) (by simp [set]) (readMapSources_eq_some codes) tag
    rw [unshown other, if_neg Bool.false_ne_true, State.storeMap_eq (s := s.received dt) set] at taken
    exact (request_of_bare h (by rw [taken]; exact h.todo)).trans (by rw [taken]; rfl)

/-! ## SET-SLOT (R2 to R5) -/

theorem State.slotInUse_iff (s : State) (i : SlotNo) : s.slotInUse i = true ↔ s.InUse i := by
  unfold State.slotInUse State.InUse State.isSource State.isTarget State.target State.isReselect Queue.isEmpty
  cases s.chg with
  | none => simp [Option.isSome_iff_ne_none]
  | some c => simp [Option.isSome_iff_ne_none, Option.bind_eq_some_iff, or_assoc]

theorem State.takeSetSlot_of_large {slot : Byte} (large : 7 < slot.toNat) (s : State) (tag flag : Byte)
    (p : RawProfile) : s.takeSetSlot tag slot flag p = s.reply 0x06 tag [2, 3] := by
  unfold State.takeSetSlot
  rw [slotOf_of_large large]
  rfl

theorem State.takeSetSlot_of_none {slot : Byte} {i : SlotNo} (named : slotOf slot = some i) {p : RawProfile}
    (bad : storeProfile p = none) (s : State) (tag : Byte) : s.takeSetSlot tag slot 0 p = s.reply 0x06 tag [2, 4] := by
  unfold State.takeSetSlot
  rw [named, bad]
  rfl

theorem State.takeSetSlot_of_some {slot : Byte} {i : SlotNo} (named : slotOf slot = some i) {p : RawProfile}
    {q : Profile} (stored : storeProfile p = some q) (s : State) (tag : Byte) :
    s.takeSetSlot tag slot 0 p =
      if s.slotInUse i then s.reply 0x06 tag [2, 7]
      else (s.reply 0x06 tag (0 :: byteOf i.val :: 0 :: q.block)).configure i q := by
  unfold State.takeSetSlot
  rw [named, stored]
  rfl

theorem State.takeSetSlot_disable {slot : Byte} {i : SlotNo} (named : slotOf slot = some i) (s : State) (tag : Byte)
    (p : RawProfile) :
    s.takeSetSlot tag slot 1 p =
      if s.slotInUse i then s.reply 0x06 tag [2, 7]
      else if (s.slot i).state = .off then
        (s.reply 0x06 tag (0 :: byteOf i.val :: 1 :: List.replicate 20 0)).disable i
      else s.reply 0x06 tag [2, 8] := by
  unfold State.takeSetSlot
  rw [named]
  rfl

/-- A change of state to another one, as one change of the slot's record and its SLOT notice (R6). -/
theorem State.setState_of_ne {s : State} {i : SlotNo} {st : SlotState} (h : (s.slot i).state ≠ st) :
    s.setState i st = (s.modSlot i fun sl => { sl with state := st }).slotNotice i := if_neg h

theorem State.setState_of_eq {s : State} {i : SlotNo} {st : SlotState} (h : (s.slot i).state = st) :
    s.setState i st = s.modSlot i fun sl => { sl with state := st } := if_pos h

@[simp] theorem State.modSlot_modSlot (s : State) (i : SlotNo) (f g : Slot → Slot) :
    (s.modSlot i f).modSlot i g = s.modSlot i fun sl => g (f sl) := by
  simp [State.slot, State.modSlot]

theorem State.configure_of_unset {s : State} {i : SlotNo} (unset : (s.slot i).setup = none)
    (new : (s.slot i).state = .unconfigured) (p : Profile) :
    s.configure i p =
      (s.modSlot i fun sl =>
        { sl with setup := some { profile := p, map := identityMap }, state := .off, lastProbe := none, lastFault := none }).notice
        (.slot i) [byteOf i.val, 1, byteOf (bit (s.slot i).power), 0] := by
  unfold State.configure
  rw [unset]
  dsimp only
  rw [State.setState_of_ne (by simp [new]), State.modSlot_modSlot, State.slotNotice]
  simp [State.slotNoticeBody, SlotState.code, faultCode]

theorem State.disable_of_off {s : State} {i : SlotNo} (off : (s.slot i).state = .off) :
    s.disable i =
      (s.modSlot i fun sl =>
        { sl with setup := none, state := .unconfigured, lastProbe := none, lastFault := none, shedPending := false
                  restartUnderWay := false }).notice
        (.slot i) [byteOf i.val, 0, byteOf (bit (s.slot i).power), 0] := by
  unfold State.disable
  rw [State.setState_of_ne (by simp [off]), State.modSlot_modSlot, State.slotNotice]
  simp [State.slotNoticeBody, SlotState.code, faultCode]

theorem State.configure_of_set {s : State} {i : SlotNo} {su : Setup} (set : (s.slot i).setup = some su) (p : Profile) :
    s.configure i p = s.modSlot i fun sl => { sl with setup := some { su with profile := p } } := by
  unfold State.configure
  rw [set]
  simp [State.modSetup, State.modSlot, set]

/-- Settles O23. -/
theorem setSlotConfiguresAndDisables : Obligations.SetSlotConfiguresAndDisables := by
  refine ⟨fun dt tag slot r s h => ⟨fun large => request_replied h (State.takeSetSlot_of_large large ..), fun i val =>
    ⟨fun bad => request_replied h (State.takeSetSlot_of_none (slotOf_of_val val) bad ..), fun p stored =>
      ⟨fun used => request_replied h ?_, fun free unset new => ?_, fun free su set => ?_⟩⟩⟩,
    fun dt tag slot s h => ⟨fun large => request_replied h (State.takeSetSlot_of_large large _ tag 1 unreadProfile), fun i val =>
      ⟨fun used => request_replied h ?_, fun free on => request_replied h ?_, fun free off => ?_⟩⟩⟩
  · exact (State.takeSetSlot_of_some (slotOf_of_val val) stored ..).trans (if_pos ((State.slotInUse_iff _ i).mpr used))
  · have taken : (s.received dt).takeRequest { tag := tag, op := .setSlot slot 0 r } = _ :=
      (State.takeSetSlot_of_some (slotOf_of_val val) stored ..).trans (if_neg (mt (State.slotInUse_iff _ i).mp free))
    rw [State.configure_of_unset (s := (s.received dt).reply ..) unset new] at taken
    exact (request_of_bare h (by rw [taken]; simp [h.todo])).trans (by rw [taken]; rfl)
  · have taken : (s.received dt).takeRequest { tag := tag, op := .setSlot slot 0 r } = _ :=
      (State.takeSetSlot_of_some (slotOf_of_val val) stored ..).trans (if_neg (mt (State.slotInUse_iff _ i).mp free))
    rw [State.configure_of_set (s := (s.received dt).reply ..) set] at taken
    exact (request_of_bare h (by rw [taken]; exact h.todo)).trans (by rw [taken]; rfl)
  · exact (State.takeSetSlot_disable (slotOf_of_val val) _ tag unreadProfile).trans (if_pos ((State.slotInUse_iff _ i).mpr used))
  · exact (State.takeSetSlot_disable (slotOf_of_val val) _ tag unreadProfile).trans
      ((if_neg (mt (State.slotInUse_iff _ i).mp free)).trans (if_neg on))
  · have taken : (s.received dt).takeRequest { tag := tag, op := .setSlot slot 1 unreadProfile } = _ :=
      (State.takeSetSlot_disable (slotOf_of_val val) _ tag unreadProfile).trans
        ((if_neg (mt (State.slotInUse_iff _ i).mp free)).trans (if_pos off))
    rw [State.disable_of_off (s := (s.received dt).reply ..) off] at taken
    exact (request_of_bare h (by rw [taken]; simp [h.todo])).trans (by rw [taken]; rfl)


/-! ## Capture (R125, R126) -/

theorem State.takeCapture_of_other {s : State} {setting : Byte} (h : s.controls.capture ≠ decide (setting = 1))
    (listed : setting = 0 ∨ setting = 1) (tag : Byte) :
    s.takeCapture tag setting =
      ((s.modControls fun c => { c with capture := decide (setting = 1) }).reply 0x0E tag
        (0 :: byteOf (bit (decide (setting = 1))) :: lineBytes s.controls.panel)).push
          (if decide (setting = 1) then [] else [.payout]) := by
  unfold State.takeCapture
  exact (if_pos listed).trans (if_neg h)

theorem State.takeCapture_of_same {s : State} {setting : Byte} (h : s.controls.capture = decide (setting = 1))
    (listed : setting = 0 ∨ setting = 1) (tag : Byte) :
    s.takeCapture tag setting =
      s.reply 0x0E tag (3 :: byteOf (bit s.controls.capture) :: lineBytes s.controls.panel) := by
  unfold State.takeCapture
  exact (if_pos listed).trans (if_pos h)

/-- Settles O26. -/
theorem captureSetsFlag : Obligations.CaptureSetsFlag := by
  refine fun dt tag setting s h => ⟨fun large => request_replied h ?_, fun on => ⟨request_replied h ?_, ?_⟩,
    fun off => ⟨request_replied h ?_, ?_⟩⟩
  · have neither : ¬ (setting = 0 ∨ setting = 1) := by bv_omega
    exact if_neg neither
  · exact (State.takeCapture_of_same (by simpa using on) (.inr rfl) tag).trans (by simp [on]; rfl)
  · have taken : (s.received dt).takeRequest { tag := tag, op := .capture 0 } = State.push _ [.payout] :=
      State.takeCapture_of_other (by simpa using on) (.inl rfl) tag
    exact request_push_one h taken (by simp [State.doTask, h.todo])
  · exact (State.takeCapture_of_same (by simpa using off) (.inl rfl) tag).trans (by simp [off]; rfl)
  · have taken : (s.received dt).takeRequest { tag := tag, op := .capture 1 } = _ :=
      State.takeCapture_of_other (by simpa using off) (.inr rfl) tag
    exact (request_of_bare h (by rw [taken]; exact h.todo)).trans (by rw [taken]; rfl)

end Sys2Proof.Machine

/-! Board power: the wait list and the permit, power-on and power-off, the rest and warm-up timers, shed. -/

namespace Sys2Proof.Machine

/-! ## What a change of slot state leaves alone (R6) -/

@[simp] theorem State.slotNotice_others (s : State) (i : SlotNo) :
    (s.slotNotice i).now = s.now ∧ (s.slotNotice i).slots = s.slots ∧ (s.slotNotice i).supply = s.supply ∧
      (s.slotNotice i).taps = s.taps ∧ (s.slotNotice i).engines = s.engines ∧
      (s.slotNotice i).probeList = s.probeList ∧ (s.slotNotice i).settings = s.settings ∧
      (s.slotNotice i).classDeadline = s.classDeadline ∧ (s.slotNotice i).controls = s.controls ∧
      (s.slotNotice i).senses = s.senses ∧ (s.slotNotice i).sampler = s.sampler ∧
      (s.slotNotice i).tester = s.tester ∧ (s.slotNotice i).todo = s.todo ∧ (s.slotNotice i).queue = s.queue ∧
      (s.slotNotice i).slot = s.slot ∧ (s.slotNotice i).engine = s.engine ∧ (s.slotNotice i).tap = s.tap := by
  simp [State.slotNotice]

@[simp] theorem State.setState_others (s : State) (i : SlotNo) (st : SlotState) :
    (s.setState i st).now = s.now ∧ (s.setState i st).supply = s.supply ∧
      (s.setState i st).taps = s.taps ∧ (s.setState i st).engines = s.engines ∧
      (s.setState i st).probeList = s.probeList ∧ (s.setState i st).settings = s.settings ∧
      (s.setState i st).classDeadline = s.classDeadline ∧ (s.setState i st).controls = s.controls ∧
      (s.setState i st).senses = s.senses ∧ (s.setState i st).sampler = s.sampler ∧
      (s.setState i st).tester = s.tester ∧ (s.setState i st).todo = s.todo := by
  unfold State.setState
  split <;> simp

/-- A queue read through states with the same queues. -/
theorem State.queue_of_queues {s t : State} (h : t.queues = s.queues) (i : SlotNo) : t.queue i = s.queue i := by
  simp [State.queue, h]

theorem State.slot_of_slots {s t : State} (h : t.slots = s.slots) (i : SlotNo) : t.slot i = s.slot i := by
  simp [State.slot, h]

@[simp] theorem State.setState_queue (s : State) (i j : SlotNo) (st : SlotState) :
    (s.setState i st).queue j = s.queue j := State.queue_of_queues (by simp) j

/-! ## The grant test (R8, R9) -/

theorem State.permitWinner_of_target {s : State} {i : SlotNo} (target : s.target = some i)
    (waits : i ∈ s.supply.waitList) : s.permitWinner = some i := by
  unfold State.permitWinner
  rw [target]
  exact if_pos (by simpa using waits)

theorem State.permitWinner_of_head {s : State} (h : ∀ j, s.target = some j → j ∉ s.supply.waitList) :
    s.permitWinner = s.supply.waitList.head? := by
  unfold State.permitWinner
  split
  next j target => exact if_neg (by simpa using h j target)
  next => rfl

theorem State.permitWinner_of_nil {s : State} (h : s.supply.waitList = []) : s.permitWinner = none :=
  (State.permitWinner_of_head (by simp [h])).trans (by rw [h]; rfl)

theorem State.grantTest_of_winner {s : State} {i : SlotNo} (free : s.supply.permit = none) (clear : s.supply.dip = false)
    (winner : s.permitWinner = some i) : s.grantTest = s.grantTo i := by
  unfold State.grantTest
  rw [free, clear, winner]
  rfl

theorem State.grantTest_of_busy {s : State}
    (h : s.supply.permit ≠ none ∨ s.supply.dip = true ∨ s.supply.waitList = []) : s.grantTest = s := by
  unfold State.grantTest
  split
  next open_ =>
    obtain ⟨free, clear⟩ := Bool.and_eq_true_iff.mp open_
    have empty : s.supply.waitList = [] := by
      rcases h with held | dip | empty
      · exact absurd (Option.isNone_iff_eq_none.mp free) held
      · simp [dip] at clear
      · exact empty
    rw [State.permitWinner_of_nil empty]
  next => rfl

@[simp] theorem State.grantTo_todo (s : State) (i : SlotNo) : (s.grantTo i).todo = s.todo := by simp [State.grantTo]

@[simp] theorem State.grantTest_todo (s : State) : s.grantTest.todo = s.todo := by
  unfold State.grantTest
  split
  · split
    · simp
    · rfl
  · rfl

theorem State.grantTo_push (s : State) (ts : List Task) (i : SlotNo) : (s.push ts).grantTo i = (s.grantTo i).push ts := by
  unfold State.grantTo
  dsimp only
  rw [← State.setState_push]
  rfl

@[simp] theorem State.grantTest_push (s : State) (ts : List Task) : (s.push ts).grantTest = s.grantTest.push ts := by
  unfold State.grantTest
  rw [State.ite_push]
  have winner : (s.push ts).permitWinner = s.permitWinner := rfl
  rw [winner]
  cases s.permitWinner with
  | none => rfl
  | some i =>
    rw [← State.grantTo_push]
    rfl

/-- Settles O27. -/
theorem grantGoesToWinner : Obligations.GrantGoesToWinner := by
  refine fun s => ⟨State.grantTest_of_busy, fun free clear i su set wins => ?_⟩
  have winner : s.permitWinner = some i := by
    rcases wins with ⟨target, waits⟩ | ⟨head, none⟩
    · exact State.permitWinner_of_target target waits
    · rw [State.permitWinner_of_head none, head]
  have warmUp : s.profileNat i (·.warmUp) = su.profile.warmUp := by simp [State.profileNat, State.profile, set]
  rw [State.grantTest_of_winner free clear winner, ← warmUp]
  rfl

/-! ## The supply dip (R20, R21) -/

/-- Settles O28. -/
theorem supplyDipMarkSetAndCleared : Obligations.SupplyDipMarkSetAndCleared := by
  refine fun dt tag s => ⟨fun h dip => ?_, fun h clear => request_replied h ?_, fun h clear => ?_, fun h dip => ?_⟩
  · have taken : (s.received dt).takeRequest { tag := tag, op := .clearDip } = State.push _ [.grant] := if_pos dip
    refine (request_push_one h taken ?_).trans rfl
    simp [State.doTask, State.supplyNotice, h.todo]
  · exact if_neg (by simp [clear])
  · unfold exec execSupplyDip
    exact live_of_bare h (if_neg (by simp [clear])) (by simp [h.1])
  · unfold exec execSupplyDip
    exact live_of_bare h (if_pos dip) h.1

/-! ## Power-on (R7) -/

theorem State.joinWait_of_not_mem {s : State} {i : SlotNo} (h : i ∉ s.supply.waitList) :
    s.joinWait i =
      (State.setState { s with supply := { s.supply with waitList := s.supply.waitList ++ [i] } } i .waiting).push
        [.grant] := by
  simp [State.joinWait, State.modSupply, h]

/-! ## Power-off (R13) -/

theorem State.openSwitch_slot {s : State} {i : SlotNo} {su : Setup} (set : (s.slot i).setup = some su) :
    (s.openSwitch i).slot i =
      { s.slot i with power := false, lastProbe := none, shedPending := false, warm := none, restWaiting := false
                      faultAtEnd := false, rest := some (s.now + su.profile.rest * 48000) } := by
  have rest : s.profileNat i (·.rest) = su.profile.rest := by simp [State.profileNat, State.profile, set]
  rw [State.openSwitch, State.modSlot_slot_self, rest]
  rfl

@[simp] theorem State.toBridge_slots (s : State) : s.toBridge.slots = s.slots := rfl

@[simp] theorem State.outgoingOpened_others (s : State) (i : SlotNo) :
    (s.outgoingOpened i).slots = s.slots ∧ (s.outgoingOpened i).supply = s.supply ∧ (s.outgoingOpened i).now = s.now := by
  unfold State.outgoingOpened
  split
  · simp
  · split
    · split
      · exact ⟨rfl, rfl, rfl⟩
      · split <;> exact ⟨rfl, rfl, rfl⟩
    · simp

theorem State.outgoingOpened_of_none {s : State} (h : s.chg = none) (i : SlotNo) : s.outgoingOpened i = s := by
  unfold State.outgoingOpened
  rw [h]

@[simp] theorem State.releasePermit_others (s : State) (i : SlotNo) :
    (s.releasePermit i).slots = s.slots ∧ (s.releasePermit i).now = s.now ∧
      (s.releasePermit i).supply =
        { s.supply with permit := if s.supply.permit = some i then none else s.supply.permit } := by
  unfold State.releasePermit
  split
  · simp [State.modSupply]
  · simp

/-- What a power-down leaves in the slot (R13). -/
theorem State.powerDown_slot {s : State} {i : SlotNo} {su : Setup} (set : (s.slot i).setup = some su) :
    (s.powerDown i).slot i =
      { s.slot i with power := false, state := .resting, lastProbe := none, shedPending := false, warm := none
                      restWaiting := false, faultAtEnd := false, rest := some (s.now + su.profile.rest * 48000) } := by
  have same : (s.powerDown i).slot i = ((s.openSwitch i).setState i .resting).slot i :=
    State.slot_of_slots (by simp [State.powerDown]) i
  rw [same, State.setState_slot, State.openSwitch_slot set]

theorem State.powerDown_slot_of_ne (s : State) {i j : SlotNo} (h : j ≠ i) : (s.powerDown i).slot j = s.slot j := by
  have same : (s.powerDown i).slot j = ((s.openSwitch i).setState i .resting).slot j :=
    State.slot_of_slots (by simp [State.powerDown]) j
  rw [same, State.setState_slot_of_ne _ h.symm, State.openSwitch, State.modSlot_slot_of_ne _ h.symm]

theorem State.powerDown_supply (s : State) (i : SlotNo) :
    (s.powerDown i).supply =
      { s.supply with permit := if s.supply.permit = some i then none else s.supply.permit } := by
  simp [State.powerDown, State.openSwitch]

theorem State.powerDown_now (s : State) (i : SlotNo) : (s.powerDown i).now = s.now := by
  simp [State.powerDown, State.openSwitch]

/-- Without the permit and outside a changeover a power-down brings about no task. -/
theorem State.powerDown_todo {s : State} {i : SlotNo} (free : s.supply.permit ≠ some i) (none : s.chg = none) :
    (s.powerDown i).todo = s.todo := by
  unfold State.powerDown State.releasePermit
  rw [State.outgoingOpened_of_none (by split <;> simp [none]), if_neg (by simpa [State.openSwitch] using free)]
  simp [State.openSwitch]

theorem State.powerDown_out {s : State} (h : s.chg = none) (i : SlotNo) : (s.powerDown i).out = s.out := by
  unfold State.powerDown
  rw [State.outgoingOpened_of_none (by simp [h])]
  simp

/-- Settles O29, by the slot's state. -/
theorem powerStepsByState : Obligations.PowerStepsByState := by
  refine ⟨fun s i => ⟨fun from_ out => ?_, fun from_ => ?_, fun from_ => ?_, fun from_ => ?_⟩,
    fun s i => ⟨fun su set from_ => ?_, fun waiting => ?_, fun from_ => ?_⟩⟩
  · rw [← State.joinWait_of_not_mem out]
    rcases from_ with off | ⟨fault, off, stopped⟩
    · simp [State.powerOn, off]
    · simp [State.powerOn, fault, off, stopped]
  · rcases from_ with resting | ⟨fault, off, runs⟩
    · simp [State.powerOn, resting, State.markRest]
    · simp [State.powerOn, fault, off, Option.isSome_iff_ne_none.mpr runs, State.markRest]
  · rcases from_ with waiting | starting
    · simp [State.powerOn, waiting]
    · simp [State.powerOn, starting]
  · rcases from_ with warm | ready | active | ⟨fault, on⟩
    · simp [State.powerOn, warm]
    · simp [State.powerOn, ready]
    · simp [State.powerOn, active]
    · simp [State.powerOn, fault, on]
  · have down : s.powerOff i = s.powerDown i := by
      rcases from_ with starting | warm | ready | active | ⟨fault, on⟩
      · simp [State.powerOff, starting]
      · simp [State.powerOff, warm]
      · simp [State.powerOff, ready]
      · simp [State.powerOff, active]
      · simp [State.powerOff, fault, on]
    simp only [down]
    exact ⟨State.powerDown_slot set, s.powerDown_supply i, fun j other => s.powerDown_slot_of_ne other, by simp, by simp,
      by simp, fun none => State.powerDown_out none i⟩
  · simp [State.powerOff, waiting, State.leaveWait, State.modSupply]
  · rcases from_ with off | resting | ⟨fault, off⟩
    · simp [State.powerOff, off]
    · simp [State.powerOff, resting]
    · simp [State.powerOff, fault, off]

/-! ## Doing several tasks -/

/-- One task of an event, the others waiting. -/
theorem run_task {n : Nat} {s t : State} {x : Task} {xs : List Task} (e : (s.push xs).doTask x = t) :
    run (n + 1) (s.push (x :: xs)) = run n t := (run_push n s x xs).trans (congrArg _ e)

theorem State.finish_of_run {s t : State} {n : Nat} (e : run 4096 s = run n t) (done : t.todo = []) :
    s.finish = t.beginMessage := by
  have cascade : s.cascade = t := e.trans (run_of_no_task _ _ done)
  rw [State.finish, cascade]

theorem live_of_run {dt : Nat} {effect : State → State} {s t u : State} {n : Nat} (h : s.Between)
    (starts : effect (s.advance dt) = u) (e : run 4096 u = run n t) (done : t.todo = []) :
    live dt effect s = .next t.beginMessage := by
  rw [live_of_between _ _ _ h, starts, State.finish_of_run e done]

theorem request_of_run {dt : Nat} {tag : Byte} {op : ReqOp} {s t u : State} {n : Nat} (h : s.TakesRequests)
    (taken : (s.received dt).takeRequest { tag := tag, op := op } = u) (e : run 4096 u = run n t) (done : t.todo = []) :
    request dt tag op s = .next t.beginMessage := by
  subst taken
  have cascade : ((s.received dt).takeRequest { tag := tag, op := op }).cascade = t := e.trans (run_of_no_task _ _ done)
  rw [request_of_takes dt tag op s h, cascade, State.finish_of_no_task _ done]

/-! ## Turns, and the shed test (R19, R27) -/

theorem State.shedReady_iff (s : State) (i : SlotNo) :
    s.shedReady i = true ↔
      (s.slot i).shedPending = true ∧ (s.queue i).ctrl = [] ∧ (s.queue i).out = none ∧ s.target ≠ some i ∧
        ((s.slot i).state = .warm ∨ (s.slot i).state = .ready ∨
          (s.slot i).state = .fault ∧ (s.slot i).power = true) := by
  simp [State.shedReady, Queue.isEmpty, State.isTarget, and_assoc, or_assoc]

theorem State.shedTest_of_not_pending {s : State} {i : SlotNo} (h : (s.slot i).shedPending = false) :
    s.shedTest i = s :=
  if_neg fun ready => by simp [((s.shedReady_iff i).mp ready).1] at h

/-- The shed test of a slot without a shed pending leaves everything as it is. -/
theorem run_shed_unshed {n : Nat} {s : State} {i : SlotNo} (unshed : (s.slot i).shedPending = false) (xs : List Task) :
    run (n + 1) (s.push (.shed i :: xs)) = run n (s.push xs) :=
  run_task (State.shedTest_of_not_pending (s := s.push xs) unshed)

/-- An idle queue without entries lets the shed test follow. -/
theorem State.turn_of_empty {s : State} {i : SlotNo} (idle : (s.queue i).running = none) (out : (s.queue i).out = none)
    (ctrl : (s.queue i).ctrl = []) : s.turn i = s.shedTest i := by
  simp [State.turn, idle, out, ctrl]

theorem State.turn_of_running {s : State} {i : SlotNo} (runs : (s.queue i).running ≠ none) : s.turn i = s := by
  simp [State.turn, Option.isSome_iff_ne_none.mpr runs]

/-- An idle queue without an output entry gives its turn to the oldest controller entry. -/
theorem State.turn_of_ctrl {s : State} {i : SlotNo} (idle : (s.queue i).running = none) (out : (s.queue i).out = none)
    (ctrl : (s.queue i).ctrl ≠ []) :
    s.turn i = (s.modQueue i fun q => { q with running := some .controller }).push [.beginStep i] := by
  simp [State.turn, idle, out, ctrl]

theorem State.turn_of_out {s : State} {i : SlotNo} (idle : (s.queue i).running = none) (out : (s.queue i).out ≠ none) :
    s.turn i = (s.modQueue i fun q => { q with running := some .output }).push [.beginStep i] := by
  simp [State.turn, idle, Option.isSome_iff_ne_none.mpr out]

/-! ## The end of a controller entry's step (R27, R32, R33) -/

/-- A queue whose oldest controller entry runs. -/
structure Queue.Runs (q : Queue) (e : Entry) (rest : List Entry) (tag : Byte) : Prop where
  ctrl : q.ctrl = e :: rest
  running : q.running = some .controller
  kind : e.kind = .controller tag

theorem Queue.Runs.current {q : Queue} {e : Entry} {rest : List Entry} {tag : Byte} (h : q.Runs e rest tag) :
    q.current = some e := by
  simp [Queue.current, h.running, h.ctrl]

theorem Queue.Runs.step {q : Queue} {e : Entry} {rest : List Entry} {tag : Byte} (h : q.Runs e rest tag) :
    q.step = e.steps[e.done]? := by
  rw [Queue.step, h.current]
  rfl

/-- A step that ends OK with steps left goes on with the next one (R27). -/
theorem State.stepEnds_goesOn {s : State} {i : SlotNo} {e : Entry} {rest : List Entry} {tag : Byte}
    (h : (s.queue i).Runs e rest tag) (plain : e.marked = false) (left : e.done + 1 < e.steps.length)
    (p : Option ProbeRecord) :
    s.stepEnds i .ok p =
      (s.modQueue i fun q => { q with ctrl := { e with done := e.done + 1 } :: rest, pauseEnd := none }).push
        [.beginStep i] := by
  unfold State.stepEnds
  dsimp only
  rw [h.running, h.current]
  refine (if_pos (by simp [Entry.goesOn, Entry.after, plain, left])).trans ?_
  simp [Queue.modEntry, State.modQueue, h.ctrl, Entry.after]

/-- A failing step, or the last one, ends the entry with its COMPLETION notice (R32, R33). -/
theorem State.stepEnds_last {s : State} {i : SlotNo} {e : Entry} {rest : List Entry} {tag : Byte}
    (h : (s.queue i).Runs e rest tag) {r : Result} (last : r ≠ .ok ∨ e.steps.length ≤ e.done + 1)
    (p : Option ProbeRecord) :
    s.stepEnds i r p =
      ((s.modQueue i fun q => { q with ctrl := rest, running := none, pauseEnd := none }).complete tag
        (workCompletion i (if r = .ok then e.done + 1 else e.done) r p)).push [.turn i] := by
  have ends : e.goesOn r = false := by
    unfold Entry.goesOn Entry.after
    rcases last with failing | last
    · simp [failing]
    · simp
      intro ok _
      simp [ok]
      omega
  have after : (e.after r).kind = .controller tag ∧ (e.after r).done = if r = .ok then e.done + 1 else e.done := by
    unfold Entry.after
    split <;> exact ⟨h.kind, rfl⟩
  unfold State.stepEnds
  dsimp only
  rw [h.running, h.current]
  refine (if_neg (by simp [ends])).trans ?_
  unfold State.endEntry
  rw [after.1, after.2]
  simp [Queue.dropRunning, State.modQueue, h.ctrl]

@[simp] theorem State.modQueue_modQueue (s : State) (i : SlotNo) (f g : Queue → Queue) :
    (s.modQueue i f).modQueue i g = s.modQueue i fun q => g (f q) := by
  simp [State.queue, State.modQueue]

/-- A change of a queue that acts alike on the queue as it stands. -/
theorem State.modQueue_congr {s : State} {i : SlotNo} {f g : Queue → Queue} (h : f (s.queue i) = g (s.queue i)) :
    s.modQueue i f = s.modQueue i g := by
  simp [State.modQueue, h]

theorem State.modSlot_congr {s : State} {i : SlotNo} {f g : Slot → Slot} (h : f (s.slot i) = g (s.slot i)) :
    s.modSlot i f = s.modSlot i g := by
  simp [State.modSlot, h]

@[simp] theorem State.modQueue_push (s : State) (ts : List Task) (i : SlotNo) (f : Queue → Queue) :
    (s.push ts).modQueue i f = (s.modQueue i f).push ts := rfl

@[simp] theorem State.modSlot_push (s : State) (ts : List Task) (i : SlotNo) (f : Slot → Slot) :
    (s.push ts).modSlot i f = (s.modSlot i f).push ts := rfl

/-- The end of the only entry of a queue, no shed pending: two tasks, and the queue is empty (R32, R33). -/
theorem run_stepEnd_only {n : Nat} {s : State} {i : SlotNo} {e : Entry} {tag : Byte} (xs : List Task)
    (h : (s.queue i).Runs e [] tag) (out : (s.queue i).out = none) (unshed : (s.slot i).shedPending = false) {r : Result}
    (last : r ≠ .ok ∨ e.steps.length ≤ e.done + 1) (p : Option ProbeRecord) :
    run (n + 2) (s.push (.stepEnd i r p :: xs)) =
      run n (((s.modQueue i fun _ => Queue.reset).complete tag
        (workCompletion i (if r = .ok then e.done + 1 else e.done) r p)).push xs) := by
  generalize ended : (s.modQueue i fun _ => Queue.reset).complete tag
        (workCompletion i (if r = .ok then e.done + 1 else e.done) r p) = t
  have queue : t.queue i = Queue.reset := by simp [← ended]
  have slot : t.slot i = s.slot i := by simp [← ended]
  have first : (s.push xs).doTask (.stepEnd i r p) = t.push (.turn i :: xs) := by
    rw [State.doTask, State.stepEnds_last (s := s.push xs) h last, State.modQueue_push,
      State.modQueue_congr (g := fun _ => Queue.reset) (by simp [Queue.reset, out]), State.complete_push,
      State.push_push, ended, List.singleton_append]
  have second : (t.push xs).doTask (.turn i) = t.push xs := by
    rw [State.doTask, State.turn_of_empty (by simp [queue, Queue.reset]) (by simp [queue, Queue.reset])
      (by simp [queue, Queue.reset]), State.shedTest_of_not_pending (by simp [slot, unshed])]
  exact (run_task first).trans (run_task second)

/-- A step begins that its check lets pass (R28). -/
theorem State.beginStep_of_pass {s : State} {i : SlotNo} {e : Entry} {st : WorkStep}
    (current : (s.queue i).current = some e) (step : e.step = some st) (pass : s.stepCheck i e st = none) :
    s.beginStep i = s.startStep i st := by
  unfold State.beginStep
  rw [current]
  dsimp only
  rw [step]
  dsimp only
  rw [pass]

/-- A PAUSE step begins with its timer (R29). -/
theorem State.beginStep_pause {s : State} {i : SlotNo} {e : Entry} {n : Nat}
    (current : (s.queue i).current = some e) (step : e.step = some (.pause n)) :
    s.beginStep i = s.modQueue i fun q => { q with pauseEnd := some (s.now + n * 48000) } :=
  State.beginStep_of_pass current step rfl

/-- A step that ends OK before a PAUSE: two tasks, and the PAUSE runs (R27, R29). -/
theorem run_stepEnd_pause {n : Nat} {s : State} {i : SlotNo} {e : Entry} {rest : List Entry} {tag : Byte}
    (xs : List Task) (h : (s.queue i).Runs e rest tag) (plain : e.marked = false) {k : Nat}
    (next : e.steps[e.done + 1]? = some (.pause k)) (p : Option ProbeRecord) :
    run (n + 2) (s.push (.stepEnd i .ok p :: xs)) =
      run n ((s.modQueue i fun q =>
        { q with ctrl := { e with done := e.done + 1 } :: rest, pauseEnd := some (s.now + k * 48000) }).push xs) := by
  have left : e.done + 1 < e.steps.length := (List.getElem?_eq_some_iff.mp next).1
  generalize on : s.modQueue i (fun q => { q with ctrl := { e with done := e.done + 1 } :: rest, pauseEnd := none }) = t
  have current : (t.queue i).current = some { e with done := e.done + 1 } := by
    rw [← on, State.modQueue_queue_self]
    simp [Queue.current, h.running]
  have first : (s.push xs).doTask (.stepEnd i .ok p) = t.push (.beginStep i :: xs) := by
    rw [State.doTask, State.stepEnds_goesOn (s := s.push xs) h plain left, State.modQueue_push, State.push_push, on,
      List.singleton_append]
  have second : (t.push xs).doTask (.beginStep i) =
      (t.modQueue i fun q => { q with pauseEnd := some (t.now + k * 48000) }).push xs :=
    State.beginStep_pause (s := t.push xs) current next
  refine (run_task first).trans ((run_task second).trans ?_)
  rw [← on, State.modQueue_modQueue]
  rfl

/-! ## PAUSE_END (R29) -/

theorem exec_pauseEnd {dt : Nat} {i : SlotNo} {s t : State} {n tick : Nat} (h : s.Between)
    (runs : (s.queue i).pauseEnd = some tick)
    (e : run 4096 ((((s.advance dt).reach tick).modQueue i fun q => { q with pauseEnd := none }).push
      [.stepEnd i .ok none]) = run n t) (done : t.todo = []) :
    exec (.pauseEnd dt i) s = .next t.beginMessage := by
  unfold exec execPauseEnd
  exact live_of_run h (by simp only [State.advance_queue, runs]) e done

/-- Settles O33. -/
theorem stepEndContinuesOrEndsEntry : Obligations.StepEndContinuesOrEndsEntry := by
  refine ⟨fun s i e rest tag r p ctrl running kind plain => ⟨fun ok left => ?_, fun last => ?_⟩,
    fun dt i s h => ⟨fun stopped => ?_, fun tick e tag pause ctrl out running kind plain =>
      ⟨fun last unshed => ?_, fun n next => ?_⟩⟩⟩
  · rw [ok]
    exact State.stepEnds_goesOn ⟨ctrl, running, kind⟩ plain left p
  · exact State.stepEnds_last ⟨ctrl, running, kind⟩ last p
  · unfold exec execPauseEnd
    exact live_of_bare h (by simp only [State.advance_queue, stopped]) h.1
  · have runs : ((((s.advance dt).reach tick).modQueue i fun q => { q with pauseEnd := none }).queue i).Runs e [] tag := by
      rw [State.modQueue_queue_self]
      exact ⟨ctrl, running, kind⟩
    have ended := run_stepEnd_only (n := 4094) [] runs (by simp [out]) (by simpa using unshed) (r := .ok)
      (.inr (by omega)) none
    rw [State.modQueue_modQueue] at ended
    exact exec_pauseEnd h pause ended (by simp [h.1])
  · have runs : ((((s.advance dt).reach tick).modQueue i fun q => { q with pauseEnd := none }).queue i).Runs e [] tag := by
      rw [State.modQueue_queue_self]
      exact ⟨ctrl, running, kind⟩
    have on := run_stepEnd_pause (n := 4094) [] runs plain next none
    rw [State.modQueue_modQueue] at on
    exact exec_pauseEnd h pause on h.1

/-! ## The rest timer (R14) -/

theorem State.restEnds_off {s : State} {i : SlotNo} (resting : (s.slot i).state = .resting)
    (alone : (s.slot i).restWaiting = false) :
    s.restEnds i = (s.modSlot i fun sl => { sl with rest := none, restWaiting := false }).setState i .off := by
  simp [State.restEnds, resting, alone]

theorem State.restEnds_fault {s : State} {i : SlotNo} (fault : (s.slot i).state = .fault)
    (alone : (s.slot i).restWaiting = false) :
    s.restEnds i = s.modSlot i fun sl => { sl with rest := none, restWaiting := false } := by
  simp [State.restEnds, fault, alone]

theorem State.restEnds_waiting {s : State} {i : SlotNo}
    (from_ : (s.slot i).state = .resting ∨ (s.slot i).state = .fault ∧ (s.slot i).power = false)
    (waits : (s.slot i).restWaiting = true) :
    s.restEnds i = (s.modSlot i fun sl => { sl with rest := none, restWaiting := false }).joinWait i := by
  rcases from_ with resting | ⟨fault, off⟩
  · simp [State.restEnds, resting, waits]
  · simp [State.restEnds, fault, off, waits]

/-! ## The warm-up timer (R10) -/

theorem State.settleTo_of_plain {s : State} {i : SlotNo} (h : (s.slot i).faultAtEnd = false) (st : SlotState) :
    s.settleTo i st = s.setState i st := if_neg (by simp [h])

/-- A slot whose warm-up has ended, before the permit is passed on (R10). -/
def State.warmed (s : State) (i : SlotNo) : State := (s.modSlot i fun sl => { sl with warm := none }).setState i .warm

@[simp] theorem State.warmed_queue (s : State) (i j : SlotNo) : (s.warmed i).queue j = s.queue j := by
  simp [State.warmed]

@[simp] theorem State.warmed_fields (s : State) (i : SlotNo) :
    (s.warmed i).now = s.now ∧ (s.warmed i).todo = s.todo ∧ (s.warmed i).chg = s.chg ∧ (s.warmed i).out = s.out ∧
      (s.warmed i).coin = s.coin ∧ (s.warmed i).queues = s.queues ∧ (s.warmed i).supply = s.supply ∧
      (s.warmed i).slot i = { s.slot i with warm := none, state := .warm } := by
  simp [State.warmed, State.setState_slot]

theorem State.warmed_slot_of_ne (s : State) {i j : SlotNo} (h : j ≠ i) : (s.warmed i).slot j = s.slot j := by
  rw [State.warmed, State.setState_slot_of_ne _ h.symm, State.modSlot_slot_of_ne _ h.symm]

/-- The end of a warm-up, no hold having expired over the slot: WARM, and the tasks that follow it (R10). -/
theorem State.warmUpEnds_eq {s : State} {i : SlotNo} (plain : (s.slot i).faultAtEnd = false) :
    s.warmUpEnds i =
      ((s.warmed i).push
        ((if s.powerOnRuns i then [.stepEnd i .ok none] else []) ++ [.shed i])).releasePermit i := by
  have runs : ((s.modSlot i fun sl => { sl with warm := none }).setState i .warm).powerOnRuns i = s.powerOnRuns i := by
    simp [State.powerOnRuns]
  unfold State.warmUpEnds
  dsimp only
  rw [State.settleTo_of_plain (by simpa using plain), runs]
  rfl

theorem exec_warmUpEnd {dt : Nat} {i : SlotNo} {s t : State} {n tick : Nat} (h : s.Between)
    (warm : (s.slot i).warm = some tick) (e : run 4096 (((s.advance dt).reach tick).warmUpEnds i) = run n t)
    (done : t.todo = []) : exec (.warmUpEnd dt i) s = .next t.beginMessage := by
  unfold exec execWarmUpEnd
  exact live_of_run h (by simp only [State.advance_slot, warm]) e done

theorem State.grantTo_shedPending (s : State) (i j : SlotNo) :
    ((s.grantTo i).slot j).shedPending = (s.slot j).shedPending := by
  unfold State.grantTo
  dsimp only
  by_cases e : i = j
  · subst e
    rw [State.setState_slot, State.modSlot_slot_self]
    rfl
  · rw [State.setState_slot_of_ne _ e, State.modSlot_slot_of_ne _ e]
    rfl

@[simp] theorem State.grantTest_shedPending (s : State) (j : SlotNo) :
    (s.grantTest.slot j).shedPending = (s.slot j).shedPending := by
  unfold State.grantTest
  split
  · split
    · exact s.grantTo_shedPending _ j
    · rfl
  · rfl

@[simp] theorem State.grantTest_queue (s : State) (j : SlotNo) : s.grantTest.queue j = s.queue j :=
  State.queue_of_queues (by simp) j

/-- A permit given back, and passed on by the grant test (R8, R10). -/
def State.permitPassed (s : State) (i : SlotNo) : State :=
  if s.supply.permit = some i then State.grantTest { s with supply := { s.supply with permit := none } } else s

@[simp] theorem State.permitPassed_todo (s : State) (i : SlotNo) : (s.permitPassed i).todo = s.todo := by
  unfold State.permitPassed
  split
  · rw [State.grantTest_todo]
  · rfl

@[simp] theorem State.permitPassed_queue (s : State) (i j : SlotNo) : (s.permitPassed i).queue j = s.queue j := by
  unfold State.permitPassed
  split
  · exact State.grantTest_queue _ j
  · rfl

@[simp] theorem State.permitPassed_shedPending (s : State) (i j : SlotNo) :
    ((s.permitPassed i).slot j).shedPending = (s.slot j).shedPending := by
  unfold State.permitPassed
  split
  · exact State.grantTest_shedPending _ j
  · rfl

theorem State.permitPassed_of_supply {s : State} {p : Supply} (h : s.supply = p) (i : SlotNo) :
    s.permitPassed i =
      if p.permit = some i then State.grantTest { s with supply := { p with permit := none } } else s := by
  subst h
  rfl

/-- With no slot waiting, a permit given back stays free. -/
theorem State.permitPassed_of_nil {s : State} (empty : s.supply.waitList = []) (i : SlotNo) :
    s.permitPassed i =
      { s with supply := { s.supply with permit := if s.supply.permit = some i then none else s.supply.permit } } := by
  unfold State.permitPassed
  split
  · exact State.grantTest_of_busy (.inr (.inr empty))
  · rfl

/-- The grant test that follows a permit given back is made before the tasks that wait. -/
theorem run_releasePermit (n : Nat) (s : State) (i : SlotNo) (ts : List Task) :
    ∃ k, n ≤ k ∧ run (n + 1) ((s.push ts).releasePermit i) = run k ((s.permitPassed i).push ts) := by
  unfold State.releasePermit State.permitPassed
  by_cases held : s.supply.permit = some i
  · refine ⟨n, le_refl n, ?_⟩
    rw [if_pos held, if_pos (by exact held)]
    exact (run_push n (State.push { s with supply := { s.supply with permit := none } } ts) .grant []).trans
      (congrArg _ (State.grantTest_push { s with supply := { s.supply with permit := none } } ts))
  · refine ⟨n + 1, Nat.le_succ n, ?_⟩
    rw [if_neg held, if_neg (by exact held)]

/-- What follows a warm-up, no hold having expired: the permit passes on, then the waiting step and the shed (R10). -/
theorem run_warmUpEnds {s : State} {i : SlotNo} (plain : (s.slot i).faultAtEnd = false) :
    ∃ k, 4095 ≤ k ∧ run 4096 (s.warmUpEnds i) =
      run k (((s.warmed i).permitPassed i).push
        ((if s.powerOnRuns i then [.stepEnd i .ok none] else []) ++ [.shed i])) := by
  rw [State.warmUpEnds_eq plain]
  exact run_releasePermit 4095 _ i _

theorem exec_restTimerEnd {dt : Nat} {i : SlotNo} {s : State} {tick : Nat} (rest : (s.slot i).rest = some tick) :
    exec (.restTimerEnd dt i) s = live dt (fun _ => ((s.advance dt).reach tick).restEnds i) s := by
  unfold exec execRestTimerEnd live
  simp only [State.advance_slot, rest]

/-- A slot whose warm-up has ended and whose permit, no slot waiting, is free. -/
def State.warmedFree (s : State) (i : SlotNo) : State :=
  { s.warmed i with supply := { s.supply with permit := if s.supply.permit = some i then none else s.supply.permit } }

theorem State.warmedFree_slot (s : State) (i : SlotNo) :
    (s.warmedFree i).slot i = { s.slot i with warm := none, state := .warm } :=
  (State.slot_of_slots (s := s.warmed i) rfl i).trans (by simp)

theorem State.warmedFree_slot_of_ne (s : State) {i j : SlotNo} (h : j ≠ i) : (s.warmedFree i).slot j = s.slot j :=
  (State.slot_of_slots (s := s.warmed i) rfl j).trans (s.warmed_slot_of_ne h)

@[simp] theorem State.warmedFree_fields (s : State) (i : SlotNo) :
    (s.warmedFree i).now = s.now ∧ (s.warmedFree i).todo = s.todo ∧ (s.warmedFree i).chg = s.chg ∧
      (s.warmedFree i).out = s.out ∧ (s.warmedFree i).coin = s.coin ∧ (s.warmedFree i).queues = s.queues := by
  simp [State.warmedFree]

theorem State.warmedFree_permit (s : State) (i : SlotNo) : (s.warmedFree i).supply.permit ≠ some i := by
  unfold State.warmedFree
  dsimp only
  split
  · nofun
  · assumption

/-- A warm-up that ends with a shed pending and an empty queue is followed by it at once (R19). -/
theorem exec_warmUpEnd_sheds {dt : Nat} {i : SlotNo} {tick : Nat} {s : State} (h : s.Between)
    (warm : (s.slot i).warm = some tick) (pending : (s.slot i).shedPending = true)
    (plain : (s.slot i).faultAtEnd = false) (queue : s.queue i = Queue.reset) (unchanging : s.chg = none)
    (empty : s.supply.waitList = []) :
    exec (.warmUpEnd dt i) s = .next ((((s.advance dt).reach tick).warmedFree i).powerDown i).beginMessage := by
  obtain ⟨k, room, led⟩ := run_warmUpEnds (s := (s.advance dt).reach tick) (i := i) plain
  obtain ⟨m, rfl⟩ : ∃ m, k = m + 1 := ⟨k - 1, by omega⟩
  have still : ((s.advance dt).reach tick).powerOnRuns i = false := by
    simp [State.powerOnRuns, Queue.step, Queue.current, queue, Queue.reset]
  have passed : (((s.advance dt).reach tick).warmed i).permitPassed i = ((s.advance dt).reach tick).warmedFree i :=
    (State.permitPassed_of_nil (by simp [empty]) i).trans (by
      simp only [State.warmedFree, State.warmed_fields])
  have sheds : (((s.advance dt).reach tick).warmedFree i).shedTest i =
      (((s.advance dt).reach tick).warmedFree i).powerDown i := by
    refine if_pos ((State.shedReady_iff _ i).mpr ?_)
    rw [State.warmedFree_slot, State.queue_of_queues (s := s) (by simp), queue, State.target]
    exact ⟨pending, rfl, rfl, by simp [unchanging], .inl rfl⟩
  rw [still, passed] at led
  exact exec_warmUpEnd h warm (led.trans (run_task (x := .shed i) (xs := []) sheds))
    ((State.powerDown_todo (State.warmedFree_permit _ i) (by simp [unchanging])).trans (by simp [h.1]))

/-- Settles O30. -/
theorem restAndWarmUpEnd : Obligations.RestAndWarmUpEnd := by
  refine ⟨fun dt i s h => ⟨fun stopped => ?_, fun tick rest => ⟨fun resting alone => ?_, fun from_ waits out => ?_,
    fun fault alone => ?_⟩⟩, fun dt i s h => ⟨fun stopped => ?_, fun tick warm unshed plain => ⟨?_, ?_⟩⟩,
    fun s i su set => ⟨fun stays => ?_, fun sheds => ?_⟩, fun dt i su tick s h set warm pending plain queue none empty => ?_⟩
  · unfold exec execRestTimerEnd
    exact live_of_bare h (by simp only [State.advance_slot, stopped]) h.1
  · rw [exec_restTimerEnd rest]
    exact live_of_bare h (State.restEnds_off (s := (s.advance dt).reach tick) resting alone) (by simp [h.1])
  · rw [exec_restTimerEnd rest]
    have waiting := (State.restEnds_waiting (s := (s.advance dt).reach tick) from_ waits).trans
      (State.joinWait_of_not_mem (by simpa using out))
    exact (live_push_one (x := .grant) h waiting (by simp [State.doTask, h.1])).trans rfl
  · rw [exec_restTimerEnd rest]
    exact live_of_bare h (State.restEnds_fault (s := (s.advance dt).reach tick) fault alone) (by simp [h.1])
  · unfold exec execWarmUpEnd
    exact live_of_bare h (by simp only [State.advance_slot, stopped]) h.1
  · intro none out idle
    obtain ⟨k, room, led⟩ := run_warmUpEnds (s := (s.advance dt).reach tick) (i := i) plain
    obtain ⟨m, rfl⟩ : ∃ m, k = m + 1 := ⟨k - 1, by omega⟩
    have still : ((s.advance dt).reach tick).powerOnRuns i = false := by
      simp [State.powerOnRuns, Queue.step, Queue.current, idle]
    rw [still] at led
    refine (exec_warmUpEnd h warm (led.trans (run_shed_unshed ?_ [])) ?_).trans ?_
    · simp [unshed]
    · simp [h.1]
    · rw [State.permitPassed_of_supply (s := ((s.advance dt).reach tick).warmed i) (p := s.supply) (by simp)]
      rfl
  · intro e tag ctrl out running kind step last empty
    obtain ⟨k, room, led⟩ := run_warmUpEnds (s := (s.advance dt).reach tick) (i := i) plain
    obtain ⟨m, rfl⟩ : ∃ m, k = m + 3 := ⟨k - 3, by omega⟩
    have runs : (s.queue i).Runs e [] tag := ⟨ctrl, running, kind⟩
    have waits : ((s.advance dt).reach tick).powerOnRuns i = true := by
      simpa [State.powerOnRuns, runs.step, Entry.step] using step
    rw [waits] at led
    have ended := run_stepEnd_only (n := m + 1) (s := (((s.advance dt).reach tick).warmed i).permitPassed i) (i := i)
      (e := e) (tag := tag) (r := .ok) [.shed i]
      (by simpa using runs) (by simpa using out) (by simp [unshed]) (.inr (by omega)) none
    refine (exec_warmUpEnd h warm (led.trans (ended.trans (run_shed_unshed ?_ []))) ?_).trans ?_
    · simp [unshed]
    · simp [h.1]
    · rw [State.permitPassed_of_supply (s := ((s.advance dt).reach tick).warmed i) (p := s.supply) (by simp)]
      rfl
  · exact if_neg (mt (s.shedReady_iff i).mp stays)
  · have down : s.shedTest i = s.powerDown i := if_pos ((s.shedReady_iff i).mpr sheds)
    simp only [down]
    exact ⟨State.powerDown_slot set, fun j other => s.powerDown_slot_of_ne other, by simp, by simp, by simp,
      fun none => State.powerDown_out none i⟩
  · have slot := State.warmedFree_slot ((s.advance dt).reach tick) i
    refine ⟨_, exec_warmUpEnd_sheds h warm pending plain queue none empty, ?_, ?_, fun j other => ?_, ?_, ?_, ?_, ?_⟩
    · simp [State.powerDown_now]
    · rw [State.powerDown_slot (su := su) (by rw [slot]; exact set), slot, State.powerDown_now]
      simp [plain]
    · rw [State.powerDown_slot_of_ne _ other, State.warmedFree_slot_of_ne _ other]
      rfl
    · simp
    · rw [State.powerDown_out (by simp [none])]
      simp
    · simp
    · rw [State.powerDown_supply, if_neg (State.warmedFree_permit _ i)]
      rfl

end Sys2Proof.Machine

/-! The ways to DARK, the failure of a changeover, and the power trip. -/

namespace Sys2Proof.Machine

/-! ## Withdrawn requests and the sync source (R49, R67) -/

theorem State.releaseOn_eq (s : State) (k : EngineNo) (r : ProbeRequest) :
    s.releaseOn k r = { s with engines := (s.releaseOn k r).engines } := by
  unfold State.releaseOn
  split <;> rfl

theorem State.releaseRequest_eq (s : State) (r : ProbeRequest) :
    s.releaseRequest r =
      { s with probeList := (s.releaseRequest r).probeList, engines := (s.releaseRequest r).engines } := by
  unfold State.releaseRequest
  rw [State.releaseOn_eq, State.releaseOn_eq _ 0]

theorem State.withdrawOutput_eq (s : State) (i : SlotNo) :
    s.withdrawOutput i =
      { s with probeList := (s.withdrawOutput i).probeList, engines := (s.withdrawOutput i).engines } :=
  s.releaseRequest_eq _

theorem State.releaseOn_withOut (s : State) (o : Output) (k : EngineNo) (r : ProbeRequest) :
    State.releaseOn { s with out := o } k r = { s.releaseOn k r with out := o } := by
  unfold State.releaseOn
  by_cases h : s.measures k r = true
  · rw [if_pos h, if_pos (by exact h)]
    rfl
  · rw [if_neg h, if_neg (by exact h)]

/-- A withdrawal does not look at the output record. -/
theorem State.withdrawOutput_withOut (s : State) (o : Output) (i : SlotNo) :
    State.withdrawOutput { s with out := o } i = { s.withdrawOutput i with out := o } := by
  unfold State.withdrawOutput State.releaseRequest
  rw [← State.releaseOn_withOut, ← State.releaseOn_withOut]

theorem State.leaveSlotSync_eq (s : State) :
    s.leaveSlotSync = { s with out := { s.out with
      sync := .bridge, blanked := s.leaveSlotSync.out.blanked
      current := if s.out.sync = .bridge then s.out.current else s.out.timing
      frameStart := if s.out.sync = .bridge then s.out.frameStart else s.now } } := by
  unfold State.leaveSlotSync
  by_cases bridge : s.out.sync = .bridge
  · simp only [bridge, if_true]
    rw [← bridge]
  · simp only [bridge, if_false]
    rfl

/-! ## Staged items (R76) -/

/-- A profile and map with staged items stored. -/
def Setup.stored (su : Setup) (o : Output) : Setup :=
  { profile := match o.stagedLevel with | some n => { su.profile with audioLevel := n } | none => su.profile
    map := match o.stagedMap with | some m => m | none => su.map }

/-- A slot's record with staged items stored. -/
def Slot.stored (sl : Slot) (o : Output) : Slot := { sl with setup := sl.setup.map fun su => su.stored o }

theorem State.modSlot_self {s : State} {i : SlotNo} {f : Slot → Slot} (h : f (s.slot i) = s.slot i) :
    s.modSlot i f = s := by
  rw [State.modSlot, h]
  simp [State.slot]

theorem State.storeStaged_eq (s : State) (i : SlotNo) :
    s.storeStaged i =
      { s.modSlot i fun sl => sl.stored s.out with out := { s.out with stagedLevel := none, stagedMap := none } } := by
  unfold State.storeStaged
  cases level : s.out.stagedLevel with
  | none =>
    cases map : s.out.stagedMap with
    | none =>
      rw [State.modSlot_self (by simp [Slot.stored, Setup.stored, level, map])]
      simp [State.modOut]
    | some m => simp [State.modOut, State.storeMap, State.modSetup, State.modSlot, Slot.stored, Setup.stored, level, map]
  | some n =>
    cases map : s.out.stagedMap with
    | none => simp [State.modOut, State.storeLevel, State.modSetup, State.modSlot, Slot.stored, Setup.stored, level, map]
    | some m =>
      simp [State.modOut, State.storeLevel, State.storeMap, State.modSetup, Slot.stored, Setup.stored, level, map, State.modSlot,
        State.slot, Function.comp_def]

/-! ## DARK (R85, R86, R95, R109) -/

/-- The output record in DARK, in every state (R85, R86, R95, R109). -/
theorem State.goDark_out (s : State) (cause : OutCause) : (s.goDark cause).out = s.out.inDark s.now := by
  unfold State.goDark State.outNotice
  cases source : s.out.source with
  | none =>
    simp only [State.notice_frame, State.modSampler_out, State.modOut_out]
    rw [State.leaveSlotSync_eq]
    rfl
  | some i =>
    simp only [State.notice_frame, State.modSampler_out, State.modOut_out]
    rw [State.leaveSlotSync_eq, State.withdrawOutput_eq, State.storeStaged_eq]
    rfl

/-- Entry to DARK without a source slot changes the output record, the sampler and the link (R95, R109). -/
theorem State.goDark_of_none {s : State} (source : s.out.source = none) (cause : OutCause) :
    s.goDark cause = State.outNotice { s with out := s.out.inDark s.now, sampler := s.sampler.stop } cause := by
  unfold State.goDark
  rw [source]
  dsimp only
  rw [State.leaveSlotSync_eq]
  rfl

/-- Entry to DARK from a source slot: its staged items are stored, its OUTPUT request withdrawn (R85, R86). -/
theorem State.goDark_of_some {s : State} {i : SlotNo} (source : s.out.source = some i) (cause : OutCause) :
    s.goDark cause =
      State.outNotice { (s.modSlot i fun sl => sl.stored s.out).withdrawOutput i with
        out := s.out.inDark s.now, sampler := s.sampler.stop } cause := by
  unfold State.goDark
  rw [source]
  dsimp only
  rw [State.leaveSlotSync_eq, State.storeStaged_eq, State.withdrawOutput_withOut, State.withdrawOutput_eq]
  rfl

theorem State.goDark_slots {s : State} {i : SlotNo} (source : s.out.source = some i) (cause : OutCause) :
    (s.goDark cause).slots = (s.modSlot i fun sl => sl.stored s.out).slots ∧ (s.goDark cause).supply = s.supply := by
  rw [State.goDark_of_some source, State.withdrawOutput_eq]
  simp [State.outNotice]

/-! ## The failure of a changeover (R109) -/

theorem State.removePrepare_eq (s : State) (i : SlotNo) :
    s.removePrepare i = { s with queues := (s.removePrepare i).queues } := by
  unfold State.removePrepare
  split
  · rfl
  · split <;> rfl

theorem State.removeTargetEntry_eq (s : State) (x : Option SlotNo) :
    s.removeTargetEntry x = { s with queues := (s.removeTargetEntry x).queues } := by
  cases x with
  | none => rfl
  | some i => exact s.removePrepare_eq i

theorem State.completeSelect_eq (s : State) (tag : Byte) (slot : Option SlotNo) (outcome step : Result) :
    s.completeSelect tag slot outcome step = { s with link := (s.completeSelect tag slot outcome step).link } :=
  s.complete_eq _ _

theorem State.failChange_of_some {s : State} {c : Change} (chg : s.chg = some c) (source : s.out.source = none)
    (reason step : Result) :
    s.failChange reason step =
      (((State.outNotice { s with chg := none, out := s.out.inDark s.now, sampler := s.sampler.stop }
        .changeover).removeTargetEntry c.toSlot).completeSelect c.tag c.toSlot reason step).push
          (releasedTasks c.toSlot ++ startTasks c.reselect) := by
  unfold State.failChange
  rw [chg]
  dsimp only
  rw [State.goDark_of_none (s := { s with chg := none }) source]

/-! ## The power trip (R12, R86, R145, R161) -/

/-- A slot's record after a trip (R12). -/
def Slot.tripped (sl : Slot) (rest : Nat) : Slot :=
  { sl with power := false, state := .fault, lastFault := some .powerTrip, lastProbe := none, shedPending := false
            warm := none, restWaiting := false, rest := some rest, testReturn := none, probeReturn := none
            faultAtEnd := false }

theorem State.tripSlot_slot {s : State} {i : SlotNo} {su : Setup} (set : (s.slot i).setup = some su) :
    (s.tripSlot i).slot i = (s.slot i).tripped (s.now + su.profile.rest * 48000) := by
  have slots : (s.tripSlot i).slot i = (((s.openSwitch i).modSlot i fun sl =>
      { sl with testReturn := none, probeReturn := none, faultAtEnd := false }).faultSlot i .powerTrip).slot i := by
    unfold State.tripSlot
    dsimp only
    split <;> rfl
  rw [slots, State.faultSlot_slot, State.modSlot_slot_self, State.openSwitch_slot set]
  rfl

theorem State.faultSlot_slot_of_ne (s : State) {i j : SlotNo} (h : j ≠ i) (r : Result) :
    (s.faultSlot i r).slot j = s.slot j := by
  rw [State.faultSlot, State.setState_slot_of_ne _ h.symm, State.modSlot_slot_of_ne _ h.symm]

@[simp] theorem State.faultSlot_others (s : State) (i : SlotNo) (r : Result) :
    (s.faultSlot i r).now = s.now ∧ (s.faultSlot i r).supply = s.supply ∧ (s.faultSlot i r).taps = s.taps ∧
      (s.faultSlot i r).engines = s.engines ∧ (s.faultSlot i r).probeList = s.probeList ∧
      (s.faultSlot i r).settings = s.settings ∧ (s.faultSlot i r).classDeadline = s.classDeadline ∧
      (s.faultSlot i r).controls = s.controls ∧ (s.faultSlot i r).senses = s.senses ∧
      (s.faultSlot i r).sampler = s.sampler ∧ (s.faultSlot i r).tester = s.tester ∧
      (s.faultSlot i r).todo = s.todo := by
  simp [State.faultSlot]

theorem State.tripSlot_slot_of_ne (s : State) {i j : SlotNo} (h : j ≠ i) : (s.tripSlot i).slot j = s.slot j := by
  have slots : (s.tripSlot i).slot j = (((s.openSwitch i).modSlot i fun sl =>
      { sl with testReturn := none, probeReturn := none, faultAtEnd := false }).faultSlot i .powerTrip).slot j := by
    unfold State.tripSlot
    dsimp only
    split <;> rfl
  rw [slots, State.faultSlot_slot_of_ne _ h, State.modSlot_slot_of_ne _ h.symm, State.openSwitch,
    State.modSlot_slot_of_ne _ h.symm]

@[simp] theorem State.tripSlot_others (s : State) (i : SlotNo) :
    (s.tripSlot i).now = s.now ∧ (s.tripSlot i).coin = s.coin ∧ (s.tripSlot i).out = s.out ∧
      (s.tripSlot i).chg = s.chg ∧
      (s.tripSlot i).supply =
        { s.supply with permit := if s.supply.permit = some i then none else s.supply.permit } := by
  unfold State.tripSlot State.openSwitch
  dsimp only
  split
  next held =>
    have held : s.supply.permit = some i := by simpa using held
    simp [State.modSupply, held]
  next other =>
    have other : ¬ s.supply.permit = some i := by simpa using other
    simp [other]

theorem State.abandonPulse_eq (s : State) (i : SlotNo) :
    s.abandonPulse i = { s with coin := { s.coin with
      pulse := if s.coin.pulse.map (·.slot) = some i then none else s.coin.pulse } } := by
  unfold State.abandonPulse
  cases pulse : s.coin.pulse with
  | none =>
    simp only [Option.map_none, reduceCtorEq, if_false]
    rw [← pulse]
  | some p =>
    by_cases mine : p.slot = i
    · simp [mine, State.modCoin]
    · simp only [mine, if_false, Option.map_some, Option.some.injEq]
      rw [← pulse]

theorem State.tripWork_eq (s : State) (i : SlotNo) :
    s.tripWork i = { s with
      probeList := (s.tripWork i).probeList, engines := (s.tripWork i).engines, tester := (s.tripWork i).tester } := by
  unfold State.tripWork
  dsimp only
  split
  · rw [State.releaseWork, State.releaseRequest_eq]
    split <;> rfl
  · split <;> rfl

/-- The state a trip has made of the slot, the coins and the work, before the output takes it. -/
def State.trippedUp (s : State) (i : SlotNo) : State := ((s.tripSlot i).abandonPulse i).tripWork i

theorem State.trippedUp_slot (s : State) (i j : SlotNo) : (s.trippedUp i).slot j = (s.tripSlot i).slot j := by
  rw [State.trippedUp, State.tripWork_eq, State.abandonPulse_eq]
  rfl

theorem State.trippedUp_fields (s : State) (i : SlotNo) :
    (s.trippedUp i).now = s.now ∧ (s.trippedUp i).out = s.out ∧ (s.trippedUp i).chg = s.chg ∧
      (s.trippedUp i).supply =
        { s.supply with permit := if s.supply.permit = some i then none else s.supply.permit } ∧
      (s.trippedUp i).coin =
        { s.coin with pulse := if s.coin.pulse.map (·.slot) = some i then none else s.coin.pulse } := by
  rw [State.trippedUp, State.tripWork_eq, State.abandonPulse_eq]
  simp

/-- A failing changeover, whose output has no source slot, keeps every slot's record, the supply and the coins. -/
theorem State.failChange_keeps {s : State} (source : s.chg ≠ none → s.out.source = none) (reason step : Result) :
    (s.failChange reason step).slots = s.slots ∧ (s.failChange reason step).supply = s.supply := by
  cases chg : s.chg with
  | none =>
    unfold State.failChange
    rw [chg]
    exact ⟨rfl, rfl⟩
  | some c =>
    rw [State.failChange_of_some chg (source (by simp [chg])), State.completeSelect_eq, State.removeTargetEntry_eq]
    simp [State.outNotice]

/-- What a trip of a slot other than the source keeps, outside the output and the changeover (R107, R108). -/
theorem State.tripOutput_keeps {s : State} {i : SlotNo} (other : s.out.source ≠ some i)
    (source : s.chg ≠ none → s.out.source = none) :
    (s.tripOutput i).slots = s.slots ∧ (s.tripOutput i).supply = s.supply ∧ (s.tripOutput i).coin = s.coin := by
  unfold State.tripOutput
  rw [if_neg (by simpa [State.isSource] using other)]
  split
  · exact ⟨rfl, rfl, rfl⟩
  · split
    · exact ⟨(State.failChange_keeps source ..).1, (State.failChange_keeps source ..).2, by simp⟩
    · split
      · exact ⟨(State.failChange_keeps source ..).1, (State.failChange_keeps source ..).2, by simp⟩
      · simp

/-- The source slot's trip takes the output to DARK (R86). -/
theorem State.tripOutput_of_source {s : State} {i : SlotNo} (source : s.out.source = some i) :
    s.tripOutput i = s.goDark .powerTrip := if_pos (by simpa [State.isSource] using source)

/-- What the source slot's trip leaves of its record, with what was staged stored in it, and of the output (R86). -/
theorem State.tripOutput_shown {s : State} {i : SlotNo} (source : s.out.source = some i) :
    (s.tripOutput i).slot i = (s.slot i).stored s.out ∧ (∀ j, j ≠ i → (s.tripOutput i).slot j = s.slot j) ∧
      (s.tripOutput i).supply = s.supply ∧ (s.tripOutput i).coin = s.coin ∧
      (s.tripOutput i).out = s.out.inDark s.now := by
  obtain ⟨slots, supplied⟩ := State.goDark_slots source .powerTrip
  rw [State.tripOutput_of_source source]
  exact ⟨(State.slot_of_slots slots i).trans (State.modSlot_slot_self ..),
    fun j other => (State.slot_of_slots slots j).trans (State.modSlot_slot_of_ne _ other.symm _),
    supplied, (State.goDark_frame _ _).1, State.goDark_out _ _⟩

/-- The effect of a trip leaves the record the slot then has, whatever tasks wait. -/
theorem State.pushLast_reads (s : State) (ts : List Task) :
    (∀ j, (s.pushLast ts).slot j = s.slot j) ∧ (s.pushLast ts).supply = s.supply ∧ (s.pushLast ts).coin = s.coin ∧
      (s.pushLast ts).out = s.out := ⟨fun _ => rfl, rfl, rfl, rfl⟩

/-- A switch that is open cannot trip, but for the slot stalled in this tick (log 16). -/
theorem exec_powerTrip_open {dt : Nat} {i : SlotNo} {s : State} (h : s.Between) (off : (s.slot i).power = false)
    (running : ¬ (s.out.mode = .holding ∧ s.out.source = some i ∧ s.out.hold.stalledAt = some (s.now + dt))) :
    exec (.powerTrip dt i) s = .next (s.advance dt).beginMessage := by
  unfold exec execPowerTrip
  refine live_of_bare h (if_neg ?_) h.1
  have not_now : (s.advance dt).stalledNow i = false := by
    refine decide_eq_false fun ⟨held, now⟩ => running ?_
    unfold State.heldSlot at held
    split at held
    next holding => exact ⟨holding, held, now⟩
    next => cases held
  simp [off, not_now]

theorem exec_powerTrip {dt : Nat} {i : SlotNo} {s : State} (h : s.Between)
    (trips : (s.slot i).power = true ∨ s.out.mode = .holding ∧ s.out.source = some i ∧
      s.out.hold.stalledAt = some (s.now + dt)) :
    exec (.powerTrip dt i) s = .next (((((s.advance dt).trippedUp i).tripOutput i).pushLast
      ((if (s.queue i).running.isSome then [Task.stepEnd i .powerTrip none] else []) ++
        [.grant, .payout, .fade, .tester])).finish) := by
  refine (live_of_between dt (fun t => t.trip i) s h).trans ?_
  refine congrArg (fun t : State => Host.Outcome.next t.finish) (if_pos ?_)
  rw [Bool.or_eq_true]
  exact trips.imp id fun ⟨holding, source, now⟩ => decide_eq_true ⟨by simp [State.heldSlot, holding, source], now⟩

/-- Settles O31. -/
theorem powerTripFaultsSlot : Obligations.PowerTripFaultsSlot := by
  refine fun dt i s h lawful => ⟨exec_powerTrip_open h, fun trips su set => ⟨_, exec_powerTrip h trips, ?_⟩⟩
  obtain ⟨now, out, chg, supply, coin⟩ := (s.advance dt).trippedUp_fields i
  have slot : ((s.advance dt).trippedUp i).slot i = (s.slot i).tripped (s.now + dt + su.profile.rest * 48000) :=
    (State.trippedUp_slot _ i i).trans (State.tripSlot_slot (s := s.advance dt) set)
  have slot_ne (j : SlotNo) (other : j ≠ i) : ((s.advance dt).trippedUp i).slot j = s.slot j :=
    (State.trippedUp_slot _ i j).trans (State.tripSlot_slot_of_ne _ other)
  obtain ⟨slot', supply', coin', out'⟩ := State.pushLast_reads (((s.advance dt).trippedUp i).tripOutput i)
    ((if (s.queue i).running.isSome then [Task.stepEnd i .powerTrip none] else []) ++ [.grant, .payout, .fade, .tester])
  simp only [slot', supply', coin', out']
  by_cases source : s.out.source = some i
  · obtain ⟨mine, others, supplied, paid, dark⟩ := State.tripOutput_shown (out ▸ source)
    refine ⟨⟨su.stored s.out, ?_, fun other => absurd source other⟩, fun j other => (others j other).trans (slot_ne j other),
      by rw [supplied, supply]; rfl, paid.trans coin, fun _ => ?_⟩
    · rw [mine, slot, out]
      simp [Slot.stored, Slot.tripped, set]
    · rw [dark, out]
      exact ⟨rfl, rfl, rfl, rfl, rfl, rfl, rfl, rfl⟩
  · have alone : ((s.advance dt).trippedUp i).chg ≠ none → ((s.advance dt).trippedUp i).out.source = none := by
      rw [out, chg]
      exact fun present => (lawful.isChanging (Option.isSome_iff_ne_none.mpr present)).1.source
    obtain ⟨slots, supplied, paid⟩ := State.tripOutput_keeps (i := i) (by rw [out]; exact source) alone
    refine ⟨⟨su, ?_, fun _ => rfl⟩, fun j other => (State.slot_of_slots slots j).trans (slot_ne j other),
      by rw [supplied, supply]; rfl, paid.trans coin, fun shown => absurd shown source⟩
    rw [State.slot_of_slots slots, slot, Slot.tripped, set]
    rfl

end Sys2Proof.Machine

/-! Work: the checks of a beginning step, the PROBE step, SLOT-WORK. -/

namespace Sys2Proof.Machine

/-! ## The checks of a beginning step (R28, R40) -/

theorem Entry.waived_iff (e : Entry) : e.waived = true ↔ e.kind = .restart ∨ e.waiver = true := by
  simp [Entry.waived]

theorem State.isTarget_iff (s : State) (i : SlotNo) : s.isTarget i = true ↔ s.target = some i := decide_eq_true_iff

theorem State.harnessRefused_iff (s : State) (i : SlotNo) :
    s.harnessRefused i = true ↔ s.target = some i ∨ (s.slot i).state = .active ∨ (s.slot i).state = .starting ∨
      (s.slot i).state = .waiting ∨ (s.slot i).state = .resting ∨ (s.slot i).state = .probing := by
  unfold State.harnessRefused
  rw [Bool.or_eq_true, State.isTarget_iff]
  cases (s.slot i).state <;> simp

theorem State.stepCheck_powerOff (s : State) (i : SlotNo) (e : Entry) :
    s.stepCheck i e .powerOff =
      if ¬ (e.kind = .restart ∨ e.waiver = true) ∧ ((s.slot i).state = .active ∨ s.target = some i) then some .inUse
      else none := by
  refine if_congr ?_ rfl rfl
  rw [Bool.and_eq_true, Bool.or_eq_true, State.isTarget_iff, decide_eq_true_iff, Bool.not_eq_true', ← Bool.not_eq_true,
    Entry.waived_iff]
  exact And.comm

theorem State.stepCheck_harness (s : State) (i : SlotNo) (e : Entry) (seed : Lines) (count : Nat) :
    s.stepCheck i e (.harness seed count) =
      if ¬ (e.kind = .restart ∨ e.waiver = true) ∧ s.harnessRefused i = true then some .inUse else none := by
  refine if_congr ?_ rfl rfl
  rw [Bool.and_eq_true, Bool.not_eq_true', ← Bool.not_eq_true, Entry.waived_iff]
  exact And.comm

theorem State.stepCheck_harness_states (s : State) (i : SlotNo) (e : Entry) (seed : Lines) (count : Nat) :
    s.stepCheck i e (.harness seed count) =
      if ¬ (e.kind = .restart ∨ e.waiver = true) ∧ (s.target = some i ∨ (s.slot i).state = .active ∨
        (s.slot i).state = .starting ∨ (s.slot i).state = .waiting ∨ (s.slot i).state = .resting ∨
        (s.slot i).state = .probing) then some .inUse else none :=
  (s.stepCheck_harness i e seed count).trans (if_congr (and_congr_right' (s.harnessRefused_iff i)) rfl rfl)

theorem State.stepCheck_probe (s : State) (i : SlotNo) (e : Entry) :
    s.stepCheck i e .probe =
      if (s.slot i).state = .off ∨ (s.slot i).state = .resting ∨ (s.slot i).state = .waiting ∨
        (s.slot i).state = .starting ∨ (s.slot i).state = .fault ∧ (s.slot i).power = false then some .notPowered
      else none := by
  unfold State.stepCheck
  cases (s.slot i).state <;> cases (s.slot i).power <;> rfl

/-! ## Engines that take requests (R48) -/

theorem State.takeHead_of_busy {s : State} {k : EngineNo} (h : s.engine k ≠ none) : s.takeHead k = s := by
  unfold State.takeHead
  split
  next free _ => exact absurd free h
  next => rfl

theorem State.takeHead_of_nil {s : State} (h : s.probeList = []) (k : EngineNo) : s.takeHead k = s := by
  unfold State.takeHead
  split
  next list => rw [h] at list; cases list
  next => rfl

theorem State.takeHead_of_free {s : State} {k : EngineNo} {r : ProbeRequest} {rest : List ProbeRequest}
    (free : s.engine k = none) (list : s.probeList = r :: rest) :
    s.takeHead k = State.setEngine { s with probeList := rest } k (some (Measure.start r s.now)) := by
  unfold State.takeHead
  rw [free, list]

theorem State.takeEngines_of_busy {s : State} (zero : s.engine 0 ≠ none) (one : s.engine 1 ≠ none) :
    s.takeEngines = s := by
  rw [State.takeEngines, State.takeHead_of_busy zero, State.takeHead_of_busy one]

theorem State.takeEngines_of_nil {s : State} (h : s.probeList = []) : s.takeEngines = s := by
  rw [State.takeEngines, State.takeHead_of_nil h, State.takeHead_of_nil h]

/-- The only request of the list goes to the first FREE engine (R48, log 13). -/
theorem State.takeEngines_of_one {s : State} {k : EngineNo} {r : ProbeRequest} (free : s.engine k = none)
    (first : k = 0 ∨ s.engine 0 ≠ none) (list : s.probeList = [r]) :
    s.takeEngines = State.setEngine { s with probeList := [] } k (some (Measure.start r s.now)) := by
  unfold State.takeEngines
  match k with
  | 0 => rw [State.takeHead_of_free free list, State.takeHead_of_nil rfl]
  | 1 =>
    have busy : s.engine 0 ≠ none := first.resolve_left (by decide)
    rw [State.takeHead_of_busy busy, State.takeHead_of_free free list]

theorem State.placeWork_of_busy {s : State} (zero : s.engine 0 ≠ none) (one : s.engine 1 ≠ none) (i : SlotNo) :
    s.placeWork i = { s with probeList := s.probeList ++ [{ kind := .work, slot := i }] } :=
  State.takeEngines_of_busy (s := { s with probeList := s.probeList ++ [{ kind := .work, slot := i }] }) zero one

theorem State.placeWork_of_free {s : State} {k : EngineNo} (free : s.engine k = none)
    (first : k = 0 ∨ s.engine 0 ≠ none) (list : s.probeList = []) (i : SlotNo) :
    s.placeWork i = s.setEngine k (some (Measure.start { kind := .work, slot := i } s.now)) := by
  refine (State.takeEngines_of_one (s := { s with probeList := s.probeList ++ [{ kind := .work, slot := i }] })
    (r := { kind := .work, slot := i }) free first (by rw [list]; rfl)).trans ?_
  rw [← list]

/-- A PROBE step moves a slot that is neither ACTIVE nor PROBING to PROBING (R15, R30). -/
theorem State.setState_probing {s : State} {i : SlotNo} (idle : (s.slot i).state ≠ .probing) :
    (s.modSlot i fun sl => { sl with probeReturn := some sl.state }).setState i .probing =
      (s.modSlot i fun x => { x with state := .probing, probeReturn := some (s.slot i).state }).notice (.slot i)
        [byteOf i.val, 6, if (s.slot i).power then 1 else 0, faultCode (s.slot i).lastFault] := by
  rw [State.setState_of_ne (by simpa using idle), State.modSlot_modSlot, State.slotNotice]
  have body : ((s.modSlot i fun sl => { sl with probeReturn := some sl.state, state := .probing }).slotNoticeBody i) =
      [byteOf i.val, 6, if (s.slot i).power then 1 else 0, faultCode (s.slot i).lastFault] := by
    cases power : (s.slot i).power <;> simp [State.slotNoticeBody, SlotState.code, power, byteOf, bit]
  rw [body]
  exact congrArg (fun t : State => t.notice _ _) (State.modSlot_congr rfl)

/-- The state in which a PROBE step asks for its probe. -/
def State.probingMoved (s : State) (i : SlotNo) : State :=
  if (s.slot i).state = .active then s
  else (s.modSlot i fun x => { x with state := .probing, probeReturn := some (s.slot i).state }).notice (.slot i)
    [byteOf i.val, 6, if (s.slot i).power then 1 else 0, faultCode (s.slot i).lastFault]

@[simp] theorem State.probingMoved_fields (s : State) (i : SlotNo) :
    (s.probingMoved i).probeList = s.probeList ∧ (s.probingMoved i).engine = s.engine ∧
      (s.probingMoved i).now = s.now := by
  unfold State.probingMoved
  split
  · exact ⟨rfl, rfl, rfl⟩
  · refine ⟨by simp, ?_, by simp⟩
    rw [(State.notice_reads _ _ _).2.2.2.1]
    rfl

theorem State.beginProbe_eq {s : State} {i : SlotNo} (idle : (s.slot i).state ≠ .probing) :
    s.beginProbe i = ((s.probingMoved i).placeWork i).push [.targetCheck, .heldCheck i] := by
  unfold State.beginProbe State.probingMoved
  rw [State.setState_probing idle]

/-- Settles O32. -/
theorem stepsCheckedAtStart : Obligations.StepsCheckedAtStart := by
  refine ⟨fun s i e => ⟨rfl, fun _ => rfl, s.stepCheck_powerOff i e, fun seed count => ?_, s.stepCheck_probe i e⟩,
    fun s i idle => ⟨fun zero one => ?_, fun k free first list => ?_⟩⟩
  · exact s.stepCheck_harness_states i e seed count
  · refine (State.beginProbe_eq idle).trans (congrArg (fun t : State => t.push _) ?_)
    rw [State.placeWork_of_busy (by simpa using zero) (by simpa using one), (s.probingMoved_fields i).1]
    rfl
  · refine (State.beginProbe_eq idle).trans (congrArg (fun t : State => t.push _) ?_)
    rw [State.placeWork_of_free (k := k) (by simpa using free) (by simpa using first) (by simpa using list),
      (s.probingMoved_fields i).2.2]
    rfl

/-! ## SLOT-WORK (R26, R34) -/

theorem readSteps_eq_none (count : Byte) (steps : Vector RawStep 4) :
    readSteps count steps = none ↔
      count = 0 ∨ 4 < count.toNat ∨ ∃ n : Fin 4, n.val < count.toNat ∧ storeStep steps[n] = none := by
  have zero : count = 0 ↔ count.toNat = 0 := by bv_omega
  unfold readSteps
  rw [zero]
  split
  next counted =>
    rw [mapM_eq_none_iff, or_iff_right (by omega), or_iff_right (by omega)]
    constructor
    · rintro ⟨x, member, bad⟩
      obtain ⟨n, at_n⟩ := List.mem_iff_getElem?.mp member
      obtain ⟨small, e⟩ := List.getElem?_eq_some_iff.mp at_n
      have place : n < count.toNat ∧ n < 4 := by simpa using small
      refine ⟨⟨n, place.2⟩, place.1, ?_⟩
      simpa [← e] using bad
    · rintro ⟨n, small, bad⟩
      exact ⟨steps[n], List.mem_iff_getElem?.mpr ⟨n.val, by simp [small]⟩, bad⟩
  next uncounted => exact iff_of_true rfl (by omega)

theorem readSteps_spec {count : Byte} {steps : Vector RawStep 4} {l : List WorkStep} (h : readSteps count steps = some l) :
    l.length = count.toNat ∧ ∀ n : Fin 4, n.val < count.toNat → l[n.val]? = storeStep steps[n] := by
  unfold readSteps at h
  split at h
  next counted =>
    refine ⟨by rw [mapM_length h]; simp; omega, fun n small => ?_⟩
    rw [mapM_getElem? h]
    simp [small]
  next => cases h

/-- SLOT-WORK, its checks passed: the reply, and the entry at the tail of the queue (R34). -/
theorem State.takeSlotWork_of_accepted {s : State} {slot count tag : Byte} {i : SlotNo} (named : slotOf slot = some i)
    (configured : (s.slot i).state ≠ .unconfigured) {steps : Vector RawStep 4} {l : List WorkStep}
    (read : readSteps count steps = some l) (tagged : tag ≠ 0) (room : (s.queue i).ctrl.length < 4) :
    s.takeSlotWork tag slot count steps =
      ((s.reply 0x0A tag (1 :: byteOf i.val :: count :: stepsBlock l)).modQueue i fun q => { q with
        ctrl := q.ctrl ++ [{ kind := .controller tag, steps := l, done := 0, waiver := false, marked := false }] }).push
        [.turn i] := by
  unfold State.takeSlotWork
  rw [named]
  dsimp only
  rw [if_neg configured, read]
  dsimp only
  rw [if_neg tagged, if_neg (by omega)]
  rfl

/-- An idle queue gives its turn to the oldest controller entry, whose PAUSE begins (R27, R29): two tasks. -/
theorem run_turn_pause {n : Nat} {s : State} {i : SlotNo} {e : Entry} {rest : List Entry} {k : Nat} {xs : List Task}
    (ctrl : (s.queue i).ctrl = e :: rest) (out : (s.queue i).out = none) (idle : (s.queue i).running = none)
    (step : e.step = some (.pause k)) :
    run (n + 2) (s.push (.turn i :: xs)) =
      run n ((s.modQueue i fun q => { q with running := some .controller, pauseEnd := some (s.now + k * 48000) }).push xs) := by
  have given : (s.push xs).doTask (.turn i) =
      (s.modQueue i fun q => { q with running := some .controller }).push (.beginStep i :: xs) :=
    State.turn_of_ctrl (s := s.push xs) idle out (fun nil => by cases ctrl.symm.trans nil)
  generalize on : s.modQueue i (fun q => { q with running := some .controller }) = t at given
  have current : (t.queue i).current = some e := by
    rw [← on, State.modQueue_queue_self]
    simp [Queue.current, ctrl]
  have begun : (t.push xs).doTask (.beginStep i) =
      (t.modQueue i fun q => { q with pauseEnd := some (t.now + k * 48000) }).push xs :=
    State.beginStep_pause (s := t.push xs) current step
  refine (run_task given).trans ((run_task begun).trans ?_)
  rw [← on, State.modQueue_modQueue]
  rfl

/-- Settles O34. -/
theorem slotWorkStoresAndPlacesEntry : Obligations.SlotWorkStoresAndPlacesEntry := by
  refine ⟨⟨fun r => rfl, fun count steps => ⟨readSteps_eq_none count steps, fun l read => readSteps_spec read⟩⟩,
    fun dt tag slot count v s h => ⟨fun large => request_replied h ?_, fun i val => ⟨fun unset => request_replied h ?_,
      fun set => ⟨fun bad => request_replied h ?_, fun l read tagged => ⟨fun full => request_replied h ?_,
        fun room runs => ?_, fun ctrl out idle n first => ?_⟩⟩⟩⟩⟩
  · simp [State.takeRequest, State.takeSlotWork, slotOf_of_large large, State.refuse, refusedBody, Reason.code]
  · simp [State.takeRequest, State.takeSlotWork, slotOf_of_val val, unset, State.refuse, refusedBody, Reason.code]
  · have refused : (s.received dt).takeSlotWork tag slot count v = (s.received dt).refuse 0x0A tag .badValue := by
      unfold State.takeSlotWork
      rw [slotOf_of_val val]
      dsimp only
      rw [if_neg (by simpa using set)]
      rcases bad with unread | untagged
      · rw [unread]
      · cases readSteps count v with
        | none => rfl
        | some l => exact if_pos untagged
    exact refused
  · have refused : (s.received dt).takeSlotWork tag slot count v = (s.received dt).refuse 0x0A tag .queueFull := by
      unfold State.takeSlotWork
      rw [slotOf_of_val val]
      dsimp only
      rw [if_neg (by simpa using set), read]
      dsimp only
      rw [if_neg tagged, if_pos (by simpa using full)]
    exact refused
  · have taken : (s.received dt).takeRequest { tag := tag, op := .slotWork slot count v } = State.push _ [.turn i] :=
      State.takeSlotWork_of_accepted (s := s.received dt) (slotOf_of_val val) set read tagged room
    refine request_of_run h taken (run_task (xs := []) (State.turn_of_running ?_)) h.todo
    rw [State.push_nil, State.modQueue_queue_self]
    exact runs
  · have taken : (s.received dt).takeRequest { tag := tag, op := .slotWork slot count v } = State.push _ [.turn i] :=
      State.takeSlotWork_of_accepted (s := s.received dt) (slotOf_of_val val) set read tagged (by simp [ctrl])
    generalize answered : (s.received dt).reply 0x0A tag (1 :: byteOf i.val :: count :: stepsBlock l) = w at taken ⊢
    have queue : w.queue i = s.queue i := by rw [← answered]; rfl
    generalize placed : w.modQueue i _ = t at taken
    let fresh : Entry := { kind := .controller tag, steps := l, done := 0, waiver := false, marked := false }
    have queue' : t.queue i = { s.queue i with ctrl := [fresh] } := by
      rw [← placed, State.modQueue_queue_self, queue, ctrl]
      rfl
    refine (request_of_run h taken (run_turn_pause (e := fresh) (rest := []) (xs := [])
      (by rw [queue']) (by rw [queue', out]) (by rw [queue', idle]) (List.head?_eq_getElem?.symm.trans first)) ?_).trans ?_
    · rw [← placed, ← answered]; exact h.todo
    · rw [← placed, State.push_nil, State.modQueue_modQueue, ← answered]
      refine congrArg (fun x : State => Host.Outcome.next x.beginMessage) (State.modQueue_congr ?_)
      rw [answered, queue, ctrl, ← answered]
      rfl

end Sys2Proof.Machine

/-! ABORT-WORK (R11, R35, R36): what an ended step leaves, and the entries that end. -/

namespace Sys2Proof.Machine

/-! ## Engines that are stopped (R49) -/

@[simp] theorem State.setEngine_setEngine (s : State) (k : EngineNo) (m n : Option Measure) :
    (s.setEngine k m).setEngine k n = s.setEngine k n := by
  simp [State.setEngine]

theorem State.stopOn_of_other {s : State} {k : EngineNo} {r : ProbeRequest} (h : ∀ m, s.engine k = some m → m.req ≠ r) :
    s.stopOn k r = s := by
  refine if_neg ?_
  unfold State.measures
  split
  next m at_k => simp [h m at_k]
  next => simp

theorem State.stopOn_of_measured {s : State} {k : EngineNo} {r : ProbeRequest} {m : Measure} (at_k : s.engine k = some m)
    (req : m.req = r) (kept : m.released = false) : s.stopOn k r = s.setEngine k none :=
  if_pos (by simp [State.measures, at_k, req, kept])

theorem State.stopOn_both_of_other {s : State} {r : ProbeRequest} (other : ∀ k m, s.engine k = some m → m.req ≠ r) :
    (s.stopOn 0 r).stopOn 1 r = s := by
  rw [State.stopOn_of_other (other 0), State.stopOn_of_other (other 1)]

theorem State.stopOn_both_of_measured {s : State} {r : ProbeRequest} {k : EngineNo} {m : Measure}
    (at_k : s.engine k = some m) (req : m.req = r) (kept : m.released = false)
    (other : ∀ j, j ≠ k → ∃ n, s.engine j = some n ∧ n.req ≠ r) :
    (s.stopOn 0 r).stopOn 1 r = s.setEngine k none := by
  have apart {j : EngineNo} (ne : j ≠ k) (n : Measure) (at_j : s.engine j = some n) : n.req ≠ r := by
    obtain ⟨n', at_j', req'⟩ := other j ne
    cases at_j.symm.trans at_j'
    exact req'
  match k with
  | 0 =>
    rw [State.stopOn_of_measured at_k req kept]
    refine State.stopOn_of_other fun n at_one => apart (j := 1) (by decide) n ?_
    rwa [State.setEngine_engine_of_ne _ (by decide)] at at_one
  | 1 => rw [State.stopOn_of_other (apart (j := 0) (by decide)), State.stopOn_of_measured at_k req kept]

/-- No engine measures the request: it only leaves the list. -/
theorem State.stopWork_of_waiting {s : State} {i : SlotNo} (zero : s.engine 0 ≠ none) (one : s.engine 1 ≠ none)
    (other : ∀ k m, s.engine k = some m → m.req ≠ ({ kind := .work, slot := i } : ProbeRequest)) :
    s.stopWork i =
      { s with probeList := s.probeList.filter fun x => decide (x ≠ ({ kind := .work, slot := i } : ProbeRequest)) } :=
  (congrArg State.takeEngines (State.stopOn_both_of_other
    (s := { s with probeList := dropRequest { kind := .work, slot := i } s.probeList }) other)).trans
    (State.takeEngines_of_busy zero one)

/-- The engine that measures the request is freed, and takes the head of the list. -/
theorem State.stopWork_of_measured {s : State} {i : SlotNo} {k : EngineNo} {m : Measure} (at_k : s.engine k = some m)
    (req : m.req = { kind := .work, slot := i }) (kept : m.released = false)
    (other : ∀ j, j ≠ k → ∃ n, s.engine j = some n ∧ n.req ≠ ({ kind := .work, slot := i } : ProbeRequest))
    (absent : ({ kind := .work, slot := i } : ProbeRequest) ∉ s.probeList) :
    s.stopWork i = (s.setEngine k none).takeEngines := by
  have same : dropRequest { kind := .work, slot := i } s.probeList = s.probeList :=
    List.filter_eq_self.mpr fun x member => decide_eq_true fun same => absent (same ▸ member)
  unfold State.stopWork
  dsimp only
  rw [same]
  exact congrArg State.takeEngines (State.stopOn_both_of_measured at_k req kept other)

/-- The only FREE engine takes the head of the list (R48). -/
theorem State.takeEngines_of_free {s : State} {k : EngineNo} {r : ProbeRequest} {rest : List ProbeRequest}
    (free : s.engine k = none) (busy : ∀ j, j ≠ k → s.engine j ≠ none) (list : s.probeList = r :: rest) :
    s.takeEngines = State.setEngine { s with probeList := rest } k (some (Measure.start r s.now)) := by
  unfold State.takeEngines
  match k with
  | 0 =>
    rw [State.takeHead_of_free free list]
    refine State.takeHead_of_busy ?_
    rw [State.setEngine_engine_of_ne _ (by decide)]
    exact busy 1 (by decide)
  | 1 => rw [State.takeHead_of_busy (busy 0 (by decide)), State.takeHead_of_free free list]

/-- The freed engine takes the head of a list that does not hold the request. -/
theorem State.stopWork_of_head {s : State} {i : SlotNo} {k : EngineNo} {m : Measure} (at_k : s.engine k = some m)
    (req : m.req = { kind := .work, slot := i }) (kept : m.released = false)
    (other : ∀ j, j ≠ k → ∃ n, s.engine j = some n ∧ n.req ≠ ({ kind := .work, slot := i } : ProbeRequest))
    {x : ProbeRequest} {rest : List ProbeRequest} (list : s.probeList = x :: rest)
    (absent : ({ kind := .work, slot := i } : ProbeRequest) ∉ s.probeList) :
    s.stopWork i = State.setEngine { s with probeList := rest } k (some (Measure.start x s.now)) := by
  have busy (j : EngineNo) (ne : j ≠ k) : (s.setEngine k none).engine j ≠ none := by
    obtain ⟨n, at_j, _⟩ := other j ne
    rw [State.setEngine_engine_of_ne _ ne.symm, at_j]
    exact Option.some_ne_none n
  rw [State.stopWork_of_measured at_k req kept other absent,
    State.takeEngines_of_free (k := k) (State.setEngine_engine_self s k none) busy list]
  exact State.setEngine_setEngine { s with probeList := rest } k none _

/-! ## The end of a running step (R36) -/

theorem State.abortPowerOn_of_waiting {s : State} {i : SlotNo} (plain : (s.slot i).faultAtEnd = false)
    (waiting : (s.slot i).state = .waiting) :
    s.abortPowerOn i = State.setState { s with supply := { s.supply with waitList := s.supply.waitList.erase i } } i .off :=
  (if_pos waiting).trans (State.settleTo_of_plain (s := s.leaveWait i) plain _)

theorem State.leaveProbing_eq {s : State} {i : SlotNo} {st : SlotState} (plain : (s.slot i).faultAtEnd = false)
    (back : (s.slot i).probeReturn = some st) :
    s.leaveProbing i =
      if (s.slot i).state = .probing then (s.modSlot i fun sl => { sl with probeReturn := none }).setState i st
      else s := by
  refine if_congr Iff.rfl ?_ rfl
  rw [back]
  exact State.settleTo_of_plain (by simpa using plain) _

theorem State.leaveTesting_eq {s : State} {i : SlotNo} {st : SlotState} (plain : (s.slot i).faultAtEnd = false)
    (back : (s.slot i).testReturn = some st) :
    s.leaveTesting i = (s.modSlot i fun sl => { sl with testReturn := none }).setState i st := by
  unfold State.leaveTesting
  rw [back]
  exact State.settleTo_of_plain (by simpa using plain) _

theorem State.abortStep_powerOn {s : State} {i : SlotNo} (step : (s.queue i).step = some .powerOn) :
    s.abortStep i = s.abortPowerOn i := by
  rw [State.abortStep, step]

theorem State.abortStep_pause {s : State} {i : SlotNo} {n : Nat} (step : (s.queue i).step = some (.pause n)) :
    s.abortStep i = s := by
  rw [State.abortStep, step]

theorem State.abortStep_probe {s : State} {i : SlotNo} (step : (s.queue i).step = some .probe) :
    s.abortStep i = (s.stopWork i).leaveProbing i := by
  rw [State.abortStep, step]

theorem State.abortStep_harness {s : State} {i : SlotNo} {seed : Lines} {n : Nat}
    (step : (s.queue i).step = some (.harness seed n)) :
    s.abortStep i =
      if s.testRunsOn i then (s.stopTest.leaveTesting i).push [.tester] else s.leaveTester i := by
  rw [State.abortStep, step]

/-! ## ABORT-WORK (R35) -/

theorem State.takeAbortWork_of_val {s : State} {tag slot : Byte} {i : SlotNo} (val : i.val = slot.toNat) :
    s.takeAbortWork tag slot = (s.reply 0x0B tag (doneBody [byteOf (s.queue i).ctrl.length])).abortWork i := by
  rw [State.takeAbortWork, slotOf_of_val val]

/-- Outside HOLDING no slot is held, and its check does nothing. -/
theorem State.heldCheck_of_mode {s : State} (h : s.out.mode ≠ .holding) (i : SlotNo) : s.heldCheck i = s :=
  if_neg fun ⟨held, _⟩ => by simp [State.heldSlot, h] at held

/-- The tasks of ABORT-WORK on a queue it leaves empty. -/
theorem run_aborted {n : Nat} {s : State} {i : SlotNo} (mode : s.out.mode ≠ .holding)
    (unshed : (s.slot i).shedPending = false) (ctrl : (s.queue i).ctrl = []) (out : (s.queue i).out = none)
    (idle : (s.queue i).running = none) :
    run (n + 3) (s.push [.heldCheck i, .turn i, .shed i]) = run n s := by
  have held : (s.push [.turn i, .shed i]).doTask (.heldCheck i) = s.push [.turn i, .shed i] :=
    State.heldCheck_of_mode (s := s.push [.turn i, .shed i]) mode i
  have turn : (s.push [.shed i]).doTask (.turn i) = s.push [.shed i] :=
    (State.turn_of_empty (s := s.push [.shed i]) idle out ctrl).trans
      (State.shedTest_of_not_pending (s := s.push [.shed i]) unshed)
  refine (run_task held).trans ((run_task turn).trans ?_)
  exact run_shed_unshed unshed []

theorem State.modQueue_self {s : State} {i : SlotNo} {f : Queue → Queue} (h : f (s.queue i) = s.queue i) :
    s.modQueue i f = s := by
  rw [State.modQueue, h]
  simp [State.queue]

/-- ABORT-WORK on a running controller entry, no output entry in the queue. -/
theorem State.abortWork_of_running {s : State} {i : SlotNo} (runs : (s.queue i).running = some .controller)
    (out : (s.queue i).out = none) :
    s.abortWork i = State.completeAborted
      (((s.push [.heldCheck i, .turn i, .shed i]).abortStep i).modQueue i fun _ => Queue.reset) i (s.queue i).ctrl := by
  have queue : ((s.push [.heldCheck i, .turn i, .shed i]).abortStep i).queue i = s.queue i :=
    State.queue_of_queues (State.abortStep_frame _ i).2.2.2.2 i
  unfold State.abortWork
  dsimp only
  rw [if_pos runs]
  refine congrArg (fun t : State => State.completeAborted t i _) (State.modQueue_congr ?_)
  rw [queue, if_pos runs, out]
  rfl

theorem State.takeAbortWork_of_running {s : State} {tag slot : Byte} {i : SlotNo} (val : i.val = slot.toNat)
    (runs : (s.queue i).running = some .controller) (out : (s.queue i).out = none) {l : List Entry}
    (ctrl : (s.queue i).ctrl = l) :
    s.takeAbortWork tag slot = State.completeAborted ((((s.reply 0x0B tag (doneBody [byteOf l.length])).push
      [.heldCheck i, .turn i, .shed i]).abortStep i).modQueue i fun _ => Queue.reset) i l := by
  subst ctrl
  exact (State.takeAbortWork_of_val val).trans (State.abortWork_of_running runs out)

theorem State.abortWork_of_empty {s : State} {i : SlotNo} (idle : (s.queue i).running = none)
    (ctrl : (s.queue i).ctrl = []) : s.abortWork i = s.push [.heldCheck i, .turn i, .shed i] := by
  unfold State.abortWork
  dsimp only
  rw [if_neg (by simp [idle]), ctrl]
  refine State.modQueue_self ?_
  rw [if_neg (by simp [idle])]
  exact congrArg (fun l => { s.queue i with ctrl := l }) ctrl.symm

theorem State.completeAborted_controller {s : State} {i : SlotNo} {e : Entry} {a : Byte} (kind : e.kind = .controller a)
    (rest : List Entry) :
    s.completeAborted i (e :: rest) = (s.complete a (workCompletion i e.done .aborted none)).completeAborted i rest := by
  rw [State.completeAborted, kind]

/-- Settles O35. -/
theorem abortWorkEndsEntries : Obligations.AbortWorkEndsEntries := by
  refine ⟨fun s i plain => ⟨fun step waiting => ?_, fun step other => ?_, fun n step => State.abortStep_pause step,
    fun seed n step idle => ?_, fun st step back => ⟨fun zero one other => ?_, fun k m at_k req kept other =>
      ⟨fun nil => ?_, fun x rest list absent => ?_⟩⟩, fun seed n st step runs back => ?_⟩,
    fun dt tag slot s h => ⟨fun large => request_replied h ?_, fun i val mode unshed =>
      ⟨fun ctrl out idle => ?_, fun e a ctrl out runs kind => ?_, fun e f a b n ctrl out runs ka kb step done => ?_⟩⟩⟩
  · exact (State.abortStep_powerOn step).trans (State.abortPowerOn_of_waiting plain waiting)
  · exact (State.abortStep_powerOn step).trans (if_neg other)
  · exact (State.abortStep_harness step).trans (if_neg (by simp [idle]))
  · rw [State.abortStep_probe step, State.stopWork_of_waiting zero one other]
    exact State.leaveProbing_eq plain back
  · rw [State.abortStep_probe step, State.stopWork_of_measured at_k req kept other (by simp [nil]),
      State.takeEngines_of_nil (by simpa using nil)]
    exact State.leaveProbing_eq plain back
  · rw [State.abortStep_probe step, State.stopWork_of_head at_k req kept other list absent]
    exact State.leaveProbing_eq plain back
  · refine (State.abortStep_harness step).trans ((if_pos runs).trans (congrArg (fun t : State => t.push _) ?_))
    exact State.leaveTesting_eq (s := s.stopTest) plain back
  · simp [State.takeRequest, State.takeAbortWork, slotOf_of_large large, State.refuse, refusedBody, Reason.code]
  · have taken : (s.received dt).takeRequest { tag := tag, op := .abortWork slot } = _ :=
      (State.takeAbortWork_of_val val).trans (State.abortWork_of_empty idle ctrl)
    refine (request_of_run h taken (run_aborted mode unshed ctrl out idle) h.todo).trans ?_
    exact congrArg (fun l => Host.Outcome.next
      ((s.received dt).replied 0x0B tag (doneBody [byteOf (List.length l)]))) ctrl
  · have taken : (s.received dt).takeRequest { tag := tag, op := .abortWork slot } = _ :=
      State.takeAbortWork_of_running (s := s.received dt) val runs out ctrl
    refine (request_of_takes dt tag _ s h).trans ?_
    rw [taken, State.completeAborted_controller kind]
    rfl
  · have taken : (s.received dt).takeRequest { tag := tag, op := .abortWork slot } = _ :=
      State.takeAbortWork_of_running (s := s.received dt) val runs out ctrl
    have pause (t : State) (same : t.queues = s.queues) : (t.queue i).step = some (.pause n) := by
      rw [State.queue_of_queues same, Queue.step, Queue.current, runs, ctrl]
      exact step
    rw [State.completeAborted_controller ka, State.completeAborted_controller kb, done, State.abortStep_pause
      (pause (((s.received dt).reply 0x0B tag (doneBody [byteOf [e, f].length])).push _) rfl), State.modQueue_push,
      State.complete_push, State.complete_push] at taken
    refine request_of_run h taken (run_aborted (by simpa using mode) ?_ (by simp [Queue.reset]) (by simp [Queue.reset])
      (by simp [Queue.reset])) ?_
    · rw [(State.complete_reads ..).1, (State.complete_reads ..).1]
      exact unshed
    · simpa using h.todo

end Sys2Proof.Machine

/-! Player controls and credit: the panel and its chord, the drive lines, service credit, the payout test. -/

namespace Sys2Proof.Machine

theorem livePin_of_bare {dt : Nat} {pin effect : State → State} {s u : State} (h : s.Between)
    (e : effect (s.advance dt) = u) (bare : u.todo = []) : livePin dt pin effect s = .next u.beginMessage := by
  rw [livePin_of_between _ _ _ _ h, e, State.finish_of_no_task _ bare]

/-! ## The panel and the chord (R117, R127, R128) -/

theorem setLine_getLsbD (l : Lines) (n m : LineNo) (b : Bool) :
    (setLine l n b).getLsbD m.val = if m = n then b else l.getLsbD m.val := by
  have bit : (BitVec.twoPow 24 n.val).getLsbD m.val = decide (m = n) := by
    simp [Fin.ext_iff, eq_comm]
  unfold setLine
  split
  next on => rw [BitVec.getLsbD_or, bit]; split <;> simp_all
  next off => rw [BitVec.getLsbD_and, BitVec.getLsbD_not, bit]; split <;> simp_all

/-- A change of a line that is no chord line leaves the chord as it is. -/
theorem Controls.chordChange_of_other {c : Controls} {n : LineNo} (h : n ∉ c.chordLines) (b : Bool) (now : Nat) :
    c.chordChange n b now = c := if_pos (by simpa using h)

theorem Controls.chordChange_panel (c : Controls) (n : LineNo) (b : Bool) (now : Nat) :
    c.chordChange n b now =
      { c with chord := (c.chordChange n b now).chord, chordEnd := (c.chordChange n b now).chordEnd } := by
  unfold Controls.chordChange Controls.timeChord Controls.openChord
  (repeat' split) <;> rfl

theorem Controls.chordHeld_iff (c : Controls) :
    c.chordHeld = true ↔ ∀ m ∈ c.chordLines, c.panel.getLsbD m.val = true := List.all_eq_true

theorem Controls.chordFree_iff (c : Controls) :
    c.chordFree = true ↔ ∀ m ∈ c.chordLines, c.panel.getLsbD m.val = false := by
  simp [Controls.chordFree]

/-- The chord's table, for a change of a chord line (R128). -/
theorem Controls.chordChange_of_mem {c : Controls} {n : LineNo} (h : n ∈ c.chordLines) (b : Bool) (now : Nat) :
    c.chordChange n b now =
      match c.chord with
      | .idle => if b && c.chordHeld then c.timeChord now else c
      | .timing => if b then c else c.openChord
      | .latched => if !b && c.chordFree then c.openChord else c := if_neg (by simpa using h)

/-- The chord's table (R128), the changed line already standing at its new level. -/
theorem Controls.chordChange_table {c k : Controls} {n : LineNo} {b : Bool} {now : Nat} (member : n ∈ c.chordLines)
    (level : c.panel.getLsbD n.val = b) (changed : c.chordChange n b now = k) :
    let allHeld := ∀ m ∈ c.chordLines, c.panel.getLsbD m.val = true
    let allFree := ∀ m ∈ c.chordLines, c.panel.getLsbD m.val = false
    (c.chord = .idle → allHeld → k.chord = .timing ∧ k.chordEnd = some (now + c.holdTime * 48000)) ∧
      (c.chord = .idle → ¬ allHeld → k.chord = .idle ∧ k.chordEnd = c.chordEnd) ∧
      (c.chord = .timing → b = true → k.chord = .timing ∧ k.chordEnd = c.chordEnd) ∧
      (c.chord = .timing → b = false → k.chord = .idle ∧ k.chordEnd = none) ∧
      (c.chord = .latched → allFree → k.chord = .idle ∧ k.chordEnd = none) ∧
      (c.chord = .latched → ¬ allFree → k.chord = .latched ∧ k.chordEnd = c.chordEnd) := by
  dsimp only
  rw [← Controls.chordHeld_iff, ← Controls.chordFree_iff, ← changed, Controls.chordChange_of_mem member]
  refine ⟨fun idle held => ?_, fun idle held => ?_, fun timing on => ?_, fun timing off => ?_, fun latched free => ?_,
    fun latched free => ?_⟩
  · have on : b = true := level.symm.trans ((c.chordHeld_iff).mp held n member)
    simp [idle, held, on, Controls.timeChord, ms, Config.ticksPerMs]
  · simp [idle, held]
  · simp [timing, on]
  · simp [timing, off, Controls.openChord]
  · have off : b = false := level.symm.trans ((c.chordFree_iff).mp free n member)
    simp [latched, free, off, Controls.openChord]
  · simp [latched, free]

/-- Settles O53. -/
theorem panelMovesChord : Obligations.PanelMovesChord := by
  refine fun dt s h => ⟨fun n b => ⟨fun same => ?_, fun other => ?_⟩, fun stopped => ?_, fun tick runs => ?_⟩
  · unfold exec execPanelChange
    exact livePin_of_bare h (if_pos same) h.1
  · generalize changed : ((s.controls.setPanel n b).chordChange n b (s.now + dt)) = k
    have panel : k.panel = setLine s.controls.panel n b := by rw [← changed, Controls.chordChange_panel]; rfl
    have level (m : LineNo) := (congrArg (BitVec.getLsbD · m.val) panel).trans (setLine_getLsbD _ n m b)
    have rest : k = { s.controls with panel := k.panel, chord := k.chord, chordEnd := k.chordEnd } := by
      rw [panel]
      exact changed.symm.trans ((Controls.chordChange_panel ..).trans (by rw [changed]; rfl))
    refine ⟨k, ?_, level, rest, fun out => ?_, fun member => ?_⟩
    · have moved : (s.advance dt).panelChange n b = State.panelNotice { s.advance dt with controls := k } := by
        rw [← changed]
        exact if_neg other
      unfold exec execPanelChange
      have told : (k.capture || decide (s.out.mode = .dark)) = true ↔ s.controls.capture = true ∨ s.out.mode = .dark := by
        rw [rest]
        simp
      by_cases tells : s.controls.capture = true ∨ s.out.mode = .dark
      · rw [if_pos tells]
        refine livePin_of_bare h (moved.trans ((if_pos (told.mpr tells)).trans ?_)) (by simpa using h.1)
        rw [State.panelNoticeBody, rest]
        rfl
      · rw [if_neg tells]
        exact livePin_of_bare h (moved.trans (if_neg fun tell => tells (told.mp tell))) h.1
    · rw [← changed, Controls.chordChange_of_other (c := s.controls.setPanel n b) out]
      exact ⟨rfl, rfl⟩
    · have mine : (s.controls.setPanel n b).panel = k.panel := panel.symm
      have table := Controls.chordChange_table (c := s.controls.setPanel n b) member
        (by rw [mine, level n, if_pos rfl]) changed
      rw [mine] at table
      exact table
  · unfold exec execChordHoldTimerEnd
    exact live_of_bare h (by rw [State.chordEnds, State.advance_controls, stopped]) h.1
  · unfold exec execChordHoldTimerEnd
    refine live_of_bare h (u := State.notice _ _ _) ?_ ?_
    · rw [State.chordEnds, State.advance_controls, runs]
      rfl
    · simpa using h.1

/-! ## Drive modes and drive levels (R118 to R124, R129, R138, R141) -/

theorem State.testRunsOn_iff (s : State) (i : SlotNo) :
    s.testRunsOn i = true ↔ ∃ r, s.tester.run = some r ∧ r.slot = i := by
  unfold State.testRunsOn
  cases s.tester.run <;> simp

/-- The drive modes of R119. -/
theorem State.driveMode_spec (s : State) (i : SlotNo) :
    (s.link.inReset = true → s.driveMode i = .park) ∧
      (s.link.inReset = false →
        ((∃ r, s.tester.run = some r ∧ r.slot = i) → s.driveMode i = .test) ∧
        (¬ (∃ r, s.tester.run = some r ∧ r.slot = i) →
          (s.slot i).state = .active ∧ s.out.mode = .showing ∧ s.controls.capture = false → s.driveMode i = .map) ∧
        (¬ (∃ r, s.tester.run = some r ∧ r.slot = i) →
          ¬ ((s.slot i).state = .active ∧ s.out.mode = .showing ∧ s.controls.capture = false) →
            s.driveMode i = .park)) := by
  rw [← State.testRunsOn_iff]
  unfold State.driveMode
  refine ⟨fun reset => if_pos reset, fun running => ?_⟩
  rw [if_neg (by simp [running])]
  exact ⟨fun testing => if_pos testing, fun idle attached => (if_neg idle).trans (if_pos attached),
    fun idle parked => (if_neg idle).trans (if_neg parked)⟩

/-- The level a map source gives (R121, R129). -/
theorem Controls.sourceLevel_panel (c : Controls) (m : LineNo) :
    c.sourceLevel (.panel m) = true ↔ c.panel.getLsbD m.val = true ∧ ¬ (c.chord = .latched ∧ m ∈ c.chordLines) := by
  simp [Controls.sourceLevel, imp_iff_not_or]

/-- The levels of a configured slot's drive lines in a mode (R118). -/
def State.levelsIn (s : State) (su : Setup) : DriveMode → Lines
  | .test => match s.tester.run with | some r => r.pattern | none => 0
  | .map => linesWhere fun n => s.controls.sourceLevel su.map[n.val]
  | .park => su.profile.park

theorem State.driveLevels_of_setup {s : State} {i : SlotNo} {su : Setup} (set : (s.slot i).setup = some su) :
    s.driveLevels i = some (s.levelsIn su (s.driveMode i)) := by
  unfold State.driveLevels
  rw [set]
  rfl

theorem State.profile_of_setup {s : State} {i : SlotNo} {su : Setup} (set : (s.slot i).setup = some su) :
    s.profile i = some su.profile := by
  simp [State.profile, set]

theorem State.profile_of_unset {s : State} {i : SlotNo} (set : (s.slot i).setup = none) : s.profile i = none := by
  simp [State.profile, set]

/-- An output sinks current by the polarity (R118). -/
theorem sinks_iff (p : Polarity) (level : Bool) :
    (decide (p = .lowAssert) == level) = true ↔ (level = true ↔ p = .lowAssert) := by
  cases level <;> simp

theorem State.coinDriveAsserted_iff (s : State) (i : SlotNo) (d : CoinDrive) :
    s.coinDriveAsserted i d = true ↔
      (s.slot i).power = true ∧ ∃ p, s.coin.pulse = some p ∧ p.slot = i ∧ p.drive = d ∧ p.on = true := by
  unfold State.coinDriveAsserted
  cases s.coin.pulse with
  | none => simp
  | some p => simp; tauto

/-- Settles O54. -/
theorem driveLinesFollowMode : Obligations.DriveLinesFollowMode := by
  refine ⟨fun s i => s.driveMode_spec i, fun s => ⟨fun i n su set => ⟨_, State.driveLevels_of_setup set, ?_⟩,
    fun i n set => ⟨by simp [State.driveLevels, set], by simp [State.sinks, State.profile_of_unset set]⟩,
    fun i d => ⟨fun set => by simp [State.coinSinks, State.profile_of_unset set], fun su set => ?_⟩,
    by simp [CoinUnit.lockoutA], by simp [CoinUnit.lockoutB]⟩⟩
  · have sinks : s.sinks i n = true ↔ ((s.connector i).getLsbD n.val = true ↔ su.profile.polarity = .lowAssert) := by
      unfold State.sinks
      rw [State.profile_of_setup set]
      exact sinks_iff _ _
    have connected (on : (s.slot i).power = true ∨ s.driveMode i = .test) :
        s.connector i = (s.driveLevels i).getD 0 := if_pos (by simpa using on)
    rw [State.driveLevels_of_setup set, Option.getD_some] at connected
    refine ⟨fun r test run => ?_, fun park => by rw [park]; rfl, fun map => ?_, connected, fun off idle => ?_, sinks⟩
    · rw [test, State.levelsIn, run]
    · rw [map]
      simp only [State.levelsIn, linesWhere_getLsbD]
      refine ⟨fun source => by rw [source]; rfl, fun source => by rw [source]; rfl, fun m source => ?_⟩
      rw [source]
      exact s.controls.sourceLevel_panel m
    · exact if_neg (by simp [off, idle])
  · unfold State.coinSinks
    rw [State.profile_of_setup set, ← State.coinDriveAsserted_iff]
    exact sinks_iff _ _

/-! ## Service credit and the payout test (R140, R142, R143, R148) -/

theorem State.payoutProfile_iff (s : State) (i : SlotNo) (p : CoinProfile) :
    s.payoutProfile = some (i, p) ↔ s.out.mode = .showing ∧ s.controls.capture = false ∧ s.out.source = some i ∧
      ∃ su, (s.slot i).setup = some su ∧ su.profile.coin = some p := by
  unfold State.payoutProfile
  split
  next runs =>
    cases source : s.out.source with
    | none => simp
    | some j =>
      cases set : (s.slot j).setup with
      | none => simp [State.profile, runs, set]; rintro rfl; simp [set]
      | some su => simp [State.profile, runs, set]; aesop
  next stopped => simp; tauto

/-- Settles O56. -/
theorem payoutTestBeginsPulse : Obligations.PayoutTestBeginsPulse := by
  intro s
  refine ⟨fun i p ⟨showing, source, set, capture, free, released, banked⟩ => ?_, fun nothing => ?_⟩
  · have profile : s.payoutProfile = some (i, p) := (s.payoutProfile_iff i p).mpr ⟨showing, capture, source, set⟩
    rcases s.payoutTest_cases with ⟨j, q, -, profile', -, -, begun⟩ | ⟨fails, -⟩
    · cases profile.symm.trans profile'
      exact begun
    · exact absurd banked (fails i p free profile released)
  · rcases s.payoutTest_cases with ⟨i, p, free, profile, released, banked, -⟩ | ⟨-, same⟩
    · obtain ⟨showing, capture, source, set⟩ := (s.payoutProfile_iff i p).mp profile
      exact absurd ⟨showing, source, set, capture, free, released, banked⟩ (nothing i p)
    · exact same

/-- CREDIT add: the reply, and the follow-up of a bank that has changed (R140). -/
theorem State.takeCredit_add (s : State) (tag n : Byte) :
    s.takeCredit tag 0 n =
      ((s.modCoin fun c => c.addCredit (max 1 (min 99 n.toNat))).reply 0x0F tag
        [0, 0, byteOf (min 255 (s.coin.bank + max 1 (min 99 n.toNat))), byteOf (max 1 (min 99 n.toNat)),
          byteOf (s.coin.bank + max 1 (min 99 n.toNat) - 255)]).creditFollows s.coin.bank .creditAdded := rfl

theorem State.takeCredit_clear {s : State} (banked : s.coin.bank ≠ 0) (tag n : Byte) :
    s.takeCredit tag 1 n =
      ((s.modCoin CoinUnit.clearCredit).reply 0x0F tag [0, 1, 0, byteOf s.coin.bank, 0]).creditFollows s.coin.bank
        .creditCleared :=
  (if_neg (by decide)).trans ((if_pos rfl).trans (if_neg banked))

theorem State.creditFollows_of_changed {s : State} {before : Nat} (h : s.coin.bank ≠ before) (cause : CoinCause) :
    s.creditFollows before cause = s.payoutTest.coinNotice cause := if_neg h

theorem State.followed_todo (s : State) (cause : CoinCause) : (s.payoutTest.coinNotice cause).todo = s.todo := by
  simp [State.coinNotice]

theorem State.takeCredit_empty {s : State} (empty : s.coin.bank = 0) (tag n : Byte) :
    s.takeCredit tag 1 n = s.reply 0x0F tag [3] :=
  (if_neg (by decide)).trans ((if_pos rfl).trans (if_pos empty))

/-- Settles O55. -/
theorem creditAddsAndClears : Obligations.CreditAddsAndClears := by
  refine fun dt tag n s h => ⟨fun changed => ?_, fun same => ?_, fun empty => request_replied h ?_, fun banked => ?_⟩
  · have taken : (s.received dt).takeRequest { tag := tag, op := .credit 0 n } = _ :=
      ((s.received dt).takeCredit_add tag n).trans (State.creditFollows_of_changed changed _)
    refine request_of_bare h (by rw [taken]; exact (State.followed_todo _ _).trans h.todo) |>.trans ?_
    rw [taken]
    rfl
  · have taken : (s.received dt).takeRequest { tag := tag, op := .credit 0 n } = _ :=
      ((s.received dt).takeCredit_add tag n).trans (if_pos same)
    refine request_of_bare h (by rw [taken]; exact h.todo) |>.trans ?_
    rw [taken]
    rfl
  · exact State.takeCredit_empty (s := s.received dt) empty tag 0
  · have taken : (s.received dt).takeRequest { tag := tag, op := .credit 1 0 } = _ :=
      (State.takeCredit_clear (s := s.received dt) banked tag 0).trans (State.creditFollows_of_changed (Ne.symm banked) _)
    refine request_of_bare h (by rw [taken]; exact (State.followed_todo _ _).trans h.todo) |>.trans ?_
    rw [taken]
    rfl

end Sys2Proof.Machine

/-! Coins, payout pulses and meters at their commands; the audio step, the end of FADE, and the picture's samples. -/

namespace Sys2Proof.Machine

/-! ## Closures (R134, R136, R139) -/

/-- A switch's record with a level and a closure state, and new totals. -/
def CoinUnit.judged (c : CoinUnit) (x : CoinInput) (st : Closure) (sum : Totals) : CoinUnit :=
  { c.setInput x { state := st, since := (c.input x).since, closed := false } with totals := sum }

theorem State.coinSwitch_opens {s : State} {x : CoinInput} (closed : (s.coin.input x).closed = true) :
    s.coinSwitch x false = s.coinOpens x :=
  (if_neg (by simp [closed])).trans (if_neg (by decide))

/-- A closure shorter than the pulse minimum (R134). -/
theorem State.coinOpens_noise {s : State} {x : CoinInput} (timing : (s.coin.input x).state = .timing)
    (short : s.now - (s.coin.input x).since < s.coin.settings.pulseMin * 48000) :
    s.coinOpens x = { s with coin := s.coin.judged x .idle (s.coin.totals.countNoise x) } := by
  unfold State.coinOpens
  dsimp only
  rw [timing]
  refine (if_pos short).trans ?_
  cases x <;> rfl

/-- A closure of a coin's length (R134, R136). -/
theorem State.coinOpens_coin {s : State} {x : CoinInput} (timing : (s.coin.input x).state = .timing)
    (long : s.coin.settings.pulseMin * 48000 ≤ s.now - (s.coin.input x).since)
    (short : s.now - (s.coin.input x).since ≤ s.coin.settings.pulseMax * 48000) :
    s.coinOpens x = State.bankCoin { s with coin := s.coin.judged x .idle (s.coin.totals.countCoin x) } x := by
  unfold State.coinOpens
  dsimp only
  rw [timing]
  refine (if_neg (Nat.not_lt.mpr long)).trans ((if_pos short).trans ?_)
  cases x <;> rfl

/-- A closure longer than the maximum, found at its opening (R134, log 21). -/
theorem State.coinOpens_late {s : State} {x : CoinInput} (timing : (s.coin.input x).state = .timing)
    (long : s.coin.settings.pulseMin * 48000 ≤ s.now - (s.coin.input x).since)
    (late : s.coin.settings.pulseMax * 48000 < s.now - (s.coin.input x).since) :
    ∃ l, s.coinOpens x = { s with coin := s.coin.judged x .idle (s.coin.totals.countJam x), link := l } := by
  have e : s.coinOpens x = ((s.modCoin fun c => c.setInput x { s.coin.input x with closed := false }).jam x).clearJam x := by
    unfold State.coinOpens
    dsimp only
    rw [timing]
    exact (if_neg (Nat.not_lt.mpr long)).trans (if_neg (Nat.not_le.mpr late))
  have jammed := State.jam_spec (s.modCoin fun c => c.setInput x { s.coin.input x with closed := false }) x
  generalize State.jam _ x = t at e jammed
  have noticed := (t.setClosure x .idle).notice_eq .coin ((t.setClosure x .idle).coinNoticeBody (.jamCleared x))
  rw [e, State.clearJam, State.coinNotice, noticed]
  generalize (State.notice _ _ _).link = l
  refine ⟨l, ?_⟩
  rw [jammed]
  generalize { s.link with txq := _ } = m
  cases x <;> rfl

/-- An opening in JAM ends it (R139). -/
theorem State.coinOpens_jam {s : State} {x : CoinInput} (jam : (s.coin.input x).state = .jam) :
    s.coinOpens x =
      State.coinNotice { s with coin := s.coin.judged x .idle s.coin.totals } (.jamCleared x) := by
  unfold State.coinOpens
  dsimp only
  rw [jam]
  cases x <;> rfl

/-- A coin on a meter that is idle, or not (R136, R147). -/
theorem Meter.count_eq (w : Meter) (now : Nat) (set : CoinSettings) :
    w.count now set =
      if w.phase = .idle then
        { pending := min 255 (w.pending + 1), phase := .on, ends := now + set.meterOn * 48000, offTime := set.meterOff }
      else { w with pending := min 255 (w.pending + 1) } := by
  unfold Meter.count Meter.wake
  by_cases idle : w.phase = .idle
  · rw [if_pos idle]
    exact if_pos ⟨idle, by simp⟩
  · rw [if_neg idle]
    exact if_neg fun both => idle both.1

/-- The meter a coin is counted on, if it is assigned one (R136). -/
theorem CoinUnit.countMeter_none {c : CoinUnit} {x : CoinInput} (h : c.settings.meterFor x = none) (now : Nat) :
    c.countMeter x now = c := by
  rw [CoinUnit.countMeter, h]

theorem CoinUnit.countMeter_some {c : CoinUnit} {x : CoinInput} {m : MeterNo} (h : c.settings.meterFor x = some m)
    (now : Nat) : c.countMeter x now = c.setMeter m ((c.meter m).count now c.settings) := by
  rw [CoinUnit.countMeter, h]

theorem exec_coinOpens {dt : Nat} {x : CoinInput} {s t : State} (h : s.Between)
    (closed : (s.coin.input x).closed = true) (e : (s.advance dt).coinOpens x = t) (bare : t.todo = []) :
    exec (.coinSwitchChange dt x false) s = .next t.beginMessage := by
  unfold exec execCoinSwitchChange
  exact livePin_of_bare h ((State.coinSwitch_opens (s := s.advance dt) closed).trans e) bare

theorem coinBanked_todo (s : State) (x : CoinInput) : (s.bankCoin x).todo = s.todo := by
  simp [State.bankCoin, State.coinNotice]

/-- Settles O57. -/
theorem coinClosureJudged : Obligations.CoinClosureJudged := by
  refine fun dt x s h => ⟨?_, fun opened => ?_, fun closed timing => ⟨fun short => ?_, fun long short => ?_, fun long late => ?_⟩,
    fun closed jam => ?_, fun idle => ?_, fun timing => ?_⟩
  · unfold exec execCoinSwitchChange
    exact livePin_of_bare h (if_pos rfl) (by exact h.1)
  · unfold exec execCoinSwitchChange
    refine livePin_of_bare h ((if_neg (by simpa using opened)).trans ((if_pos rfl).trans ?_)) ?_
    · cases x <;> rfl
    · exact h.1
  · refine (exec_coinOpens h closed (State.coinOpens_noise (s := s.advance dt) timing short) h.1).trans ?_
    cases x <;> rfl
  · refine (exec_coinOpens h closed (State.coinOpens_coin (s := s.advance dt) timing long short)
      ((coinBanked_todo _ x).trans h.1)).trans ?_
    refine congrArg (fun c : CoinUnit => Host.Outcome.next
      ((State.payoutTest { s.advance dt with coin := c }).coinNotice (.coin x)).beginMessage) ?_
    cases meter : s.coin.settings.meterFor x with
    | none =>
      refine (CoinUnit.countMeter_none (by cases x <;> exact meter) _).trans ?_
      cases x
      · have chosen : s.coin.settings.meterA = none := meter
        rw [chosen]
        rfl
      · have chosen : s.coin.settings.meterB = none := meter
        rw [chosen]
        rfl
    | some m =>
      refine (CoinUnit.countMeter_some (m := m) (by cases x <;> exact meter) _).trans ?_
      rw [Meter.count_eq]
      cases x
      · have chosen : s.coin.settings.meterA = some m := meter
        rw [chosen]
        cases m <;> rfl
      · have chosen : s.coin.settings.meterB = some m := meter
        rw [chosen]
        cases m <;> rfl
  · obtain ⟨l, opened⟩ := State.coinOpens_late (s := s.advance dt) timing long late
    refine ⟨l, (exec_coinOpens h closed opened h.1).trans ?_⟩
    cases x <;> rfl
  · refine (exec_coinOpens h closed (State.coinOpens_jam (s := s.advance dt) jam) ?_).trans ?_
    · simpa [State.coinNotice] using h.1
    · cases x <;> rfl
  · unfold exec execCoinPulseMaximum
    exact live_of_bare h (if_neg idle) (by exact h.1)
  · unfold exec execCoinPulseMaximum
    refine live_of_bare h ((if_pos timing).trans ?_) ?_
    · cases x <;> rfl
    · simpa [State.coinNotice] using h.1

/-! ## The end of FADE (R93, R94) -/

theorem State.fadeTest_of_other {s : State} (h : ∀ c, s.chg = some c → c.stage ≠ .fade) : s.fadeTest = s := by
  unfold State.fadeTest
  split
  next => rfl
  next c chg => exact if_neg fun both => h c chg both.1

theorem State.fadeDone_iff (s : State) : s.fadeDone = true ↔ s.out.gain = 63 ∧ s.coin.pulse = none := by
  simp [State.fadeDone]

theorem State.fadeTest_of_sounding {s : State} (h : s.out.gain ≠ 63 ∨ s.coin.pulse ≠ none) : s.fadeTest = s := by
  unfold State.fadeTest
  split
  next => rfl
  next c chg =>
    refine if_neg fun both => ?_
    obtain ⟨muted, free⟩ := s.fadeDone_iff.mp both.2
    exact h.elim (absurd muted) (absurd free)

/-- FADE ends in BRIDGE, the sync source being a slot (R93, R94). -/
theorem State.fadeTest_begins {s : State} {c : Change} (chg : s.chg = some c) (stage : c.stage = .fade)
    (muted : s.out.gain = 63) (free : s.coin.pulse = none) (slot : s.out.sync ≠ .bridge) :
    s.fadeTest =
      { s with chg := some { c with stage := .bridge, cut := { Cut.none with timer := some (s.now + 12000000) } } } := by
  unfold State.fadeTest
  rw [chg]
  refine (if_pos ⟨stage, s.fadeDone_iff.mpr ⟨muted, free⟩⟩).trans ((if_neg slot).trans ?_)
  rw [State.modChange, chg]
  rfl

/-- AUDIO_STEP, by what the end-of-FADE test makes of the state (R74, R93). -/
theorem exec_audioStep {dt : Nat} {s t : State} (h : s.Between)
    (fade : State.fadeTest { s.advance dt with out := { s.out with gain := stepGain s.out.gain s.out.target } } = t)
    (bare : t.todo = []) : exec (.audioStep dt) s = .next t.beginMessage := by
  subst fade
  unfold exec execAudioStep
  exact live_push_one (u := { s.advance dt with out := { s.out with gain := stepGain s.out.gain s.out.target } })
    (x := .fade) h rfl bare

/-- Settles O42. -/
theorem audioStepMovesGain : Obligations.AudioStepMovesGain := by
  refine fun dt s h => ⟨fun stays => exec_audioStep h ?_ h.1, fun c chg stage muted free slot =>
    exec_audioStep h (State.fadeTest_begins (s := { s.advance dt with out := _ }) chg stage muted free slot) h.1⟩
  rcases stays with other | sounding
  · exact State.fadeTest_of_other other
  · exact State.fadeTest_of_sounding (s := { s.advance dt with out := _ }) sounding

/-! ## Payout pulses and meters (R142, R143, R147) -/

theorem State.payoutTest_of_mode {s : State} (h : s.out.mode ≠ .showing) : s.payoutTest = s := by
  rcases s.payoutTest_cases with ⟨i, p, -, profile, -⟩ | ⟨-, same⟩
  · exact absurd ((s.payoutProfile_iff i p).mp profile).1 h
  · exact same

theorem State.beginPulse_push (s : State) (ts : List Task) (i : SlotNo) (p : CoinProfile) :
    (s.push ts).beginPulse i p = (s.beginPulse i p).push ts := by
  unfold State.beginPulse
  dsimp only
  rw [← State.coinNotice_push]
  rfl

@[simp] theorem State.payoutTest_push (s : State) (ts : List Task) : (s.push ts).payoutTest = s.payoutTest.push ts := by
  have profile : (s.push ts).payoutProfile = s.payoutProfile := rfl
  rcases s.payoutTest_cases with ⟨i, p, free, mine, released, banked, begun⟩ | ⟨fails, same⟩
  · rw [begun, ← State.beginPulse_push]
    rcases (s.push ts).payoutTest_cases with ⟨j, q, -, mine', -, -, begun'⟩ | ⟨fails, -⟩
    · cases mine.symm.trans mine'
      exact begun'
    · exact absurd banked (fails i p free mine released)
  · rw [same]
    rcases (s.push ts).payoutTest_cases with ⟨i, p, free, mine, released, banked, -⟩ | ⟨-, same'⟩
    · exact absurd banked (fails i p free mine released)
    · exact same'

/-- The end of a pulse's off time: the payout test, then the test of FADE's end (R93, R143). -/
theorem exec_payoutOffTimeEnd {dt : Nat} {s : State} {p : Pulse} (h : s.Between) (flight : s.coin.pulse = some p)
    (off : p.on = false) {t : State}
    (fade : (State.payoutTest
      { s.advance dt with now := max (s.advance dt).now p.ends, coin := { s.coin with pulse := none } }).fadeTest = t)
    (bare : t.todo = []) : exec (.payoutOffTimeEnd dt) s = .next t.beginMessage := by
  unfold exec execPayoutOffTimeEnd
  generalize ended : { s.advance dt with
    now := max (s.advance dt).now p.ends, coin := { s.coin with pulse := none } } = u at fade
  have tested : (u.push [.fade]).doTask .payout = u.payoutTest.push [.fade] := u.payoutTest_push _
  have faded : (u.payoutTest.push []).doTask .fade = t := fade
  refine live_of_run (n := 4094) h ?_ ((run_task tested).trans (run_task faded)) bare
  rw [← ended]
  rw [State.advance_coin, flight]
  exact if_neg (by simp [off])

theorem exec_payoutOnTimeEnd {dt : Nat} {s : State} {p : Pulse} (h : s.Between) (flight : s.coin.pulse = some p)
    (on : p.on = true) :
    exec (.payoutOnTimeEnd dt) s =
      .next (((s.advance dt).reach p.ends).pulseOnEnds p).beginMessage := by
  unfold exec execPayoutOnTimeEnd
  refine live_of_bare h ?_ (by exact h.1)
  rw [State.advance_coin, flight]
  exact if_pos on

/-- The end of a meter's OFF phase, by the count that is left (R147). -/
theorem Meter.offEnds_eq (r : Meter) (now : Nat) (set : CoinSettings) :
    r.offEnds now set =
      if r.pending ≤ 1 then { r with pending := 0, phase := .idle }
      else { pending := r.pending - 1, phase := .on, ends := now + set.meterOn * 48000, offTime := set.meterOff } := by
  unfold Meter.offEnds Meter.wake
  by_cases few : r.pending ≤ 1
  · rw [if_pos few, if_neg (by simp; omega), Nat.sub_eq_zero_of_le few]
  · rw [if_neg few]
    exact if_pos ⟨rfl, by simp; omega⟩

theorem senses_set (s : State) (i : SlotNo) (y : Senses) (j : SlotNo) :
    (s.senses.set i.val y i.isLt)[j.val] = if j = i then y else s.sense j := by
  rw [Vector.getElem_set]
  simp [Fin.ext_iff, eq_comm, State.sense]

/-- Settles O58. -/
theorem payoutPulseAndMetersRun : Obligations.PayoutPulseAndMetersRun := by
  refine fun dt s h => ⟨fun i d high => ?_, fun off => ?_, fun on => ?_, fun p flight => ⟨fun on => ?_, fun off =>
    ⟨fun other => ?_, fun c chg stage changing muted slot => ?_⟩⟩, fun m => ⟨fun other => ?_, fun other => ?_, fun on => ?_,
      fun off => ?_⟩⟩
  · unfold exec execLockoutSenseChange
    refine ⟨_, (livePin_of_between dt _ _ s h).trans ?_, senses_set s i _⟩
    exact congrArg Host.Outcome.next (State.finish_push_one (x := .payout) ((State.payoutTest_todo _).trans h.1))
  · unfold exec execPayoutOnTimeEnd
    refine live_of_bare h ?_ (by exact h.1)
    rw [State.advance_coin]
    split
    next p flight => exact if_neg (by simp [off p flight])
    next => rfl
  · unfold exec execPayoutOffTimeEnd
    refine live_of_bare h ?_ (by exact h.1)
    rw [State.advance_coin]
    split
    next p flight => exact if_pos (on p flight)
    next => rfl
  · exact exec_payoutOnTimeEnd h flight on
  · refine exec_payoutOffTimeEnd h flight off (State.fadeTest_of_other ?_) ?_
    · simpa using other
    · simpa using h.1
  · refine exec_payoutOffTimeEnd h flight off ?_ ?_
    · rw [State.payoutTest_of_mode (by simp [changing])]
      exact State.fadeTest_begins chg stage muted rfl slot
    · exact h.1
  · unfold exec execMeterOnEnd
    exact live_of_bare h (if_neg other) (by exact h.1)
  · unfold exec execMeterOffEnd
    exact live_of_bare h (if_neg other) (by exact h.1)
  · unfold exec execMeterOnEnd
    exact live_of_bare h (if_pos on) (by exact h.1)
  · unfold exec execMeterOffEnd
    refine live_of_bare h ((if_pos off).trans ?_) ?_
    · exact congrArg (fun r => { s.advance dt with
        now := max (s.advance dt).now (s.coin.meter m).ends, coin := s.coin.setMeter m r }) (Meter.offEnds_eq _ _ _)
    · exact h.1

/-! ## The picture's samples (R153 to R155) -/

theorem sampledLine_iff (n : Nat) : sampledLine n = true ↔ ∃ k, k ≤ 31 ∧ n = 24 + 6 * k := by
  rw [sampledLine, decide_eq_true_iff]
  constructor
  · rintro ⟨low, high, step⟩
    exact ⟨(n - 24) / 6, by omega, by omega⟩
  · rintro ⟨k, small, rfl⟩
    omega

theorem sampleValue_eq (red green blue : Bool) :
    sampleValue red green blue = (if red then 4 else 0) + (if green then 2 else 0) + (if blue then 1 else 0) := by
  cases red <;> cases green <;> cases blue <;> rfl

/-- The next grid point of a sampled line (R153). -/
theorem State.nextPoint_of_sampled {s : State} {n : Nat} {p : ProbeRecord} {d : Derived} (on : s.sampler.sampling = true)
    (line : s.sampler.line = some n) (sampled : sampledLine n = true) (left : s.sampler.point < 64)
    (probe : s.out.sourceProbe = some p) (figures : p.derived = some d) :
    s.nextPoint = some (s.sampler.lineAt + (d.lineTicks / 6 + s.sampler.point * (d.lineTicks / 96))) := by
  unfold State.nextPoint
  rw [line]
  dsimp only
  rw [if_pos (by simp [on, sampled, left]), Output.sourceLineTicks, probe, Option.bind_some, figures]
  rfl

theorem State.nextPoint_of_off {s : State}
    (off : s.sampler.sampling = false ∨ s.sampler.line = none ∨ 64 ≤ s.sampler.point ∨
      ∃ n, s.sampler.line = some n ∧ sampledLine n = false) : s.nextPoint = none := by
  unfold State.nextPoint
  cases line : s.sampler.line with
  | none => rfl
  | some n =>
    refine if_neg ?_
    rw [line] at off
    simp only [Bool.and_eq_true, decide_eq_true_iff]
    rintro ⟨⟨on, sampled⟩, left⟩
    rcases off with idle | nowhere | past | ⟨m, same, unsampled⟩
    · simp [on] at idle
    · cases nowhere
    · omega
    · cases same
      simp [sampled] at unsampled

/-- The close of a frame (R155). -/
theorem Sampler.close_spec (x : Sampler) :
    (x.close).prev = some x.running ∧ (x.close).sampling = x.sampling ∧ (x.close).running = x.running ∧
      (x.prev = none → (x.close).stall = x.stall) ∧
      (x.prev = some x.running → (x.close).stall = min 65535 (x.stall + 1)) ∧
      (∀ p, x.prev = some p → p ≠ x.running → (x.close).stall = 0) := by
  refine ⟨rfl, rfl, rfl, fun first => ?_, fun same => ?_, fun p prev other => ?_⟩
  · simp [Sampler.close, nextStall, first]
  · simp [Sampler.close, nextStall, same]
  · simp [Sampler.close, nextStall, prev, other]

/-- Settles O46. -/
theorem samplesFoldAndFramesClose : Obligations.SamplesFoldAndFramesClose := by
  refine ⟨⟨fun dt red green blue s h => ⟨fun n p d on line grid left probe figures => ?_, fun off => ?_⟩, by decide⟩,
    Sampler.close_spec⟩
  · unfold exec execGridPointSample
    refine live_of_bare h ?_ ?_
    · rw [State.gridSample, State.nextPoint_of_sampled (s := s.advance dt) on line ((sampledLine_iff n).mpr grid) left
        probe figures, sampleValue_eq]
      rfl
    · exact h.1
  · unfold exec execGridPointSample
    refine live_of_bare h ?_ ?_
    · rw [State.gridSample, State.nextPoint_of_off (s := s.advance dt)]
      refine off.imp_right (.imp_right (.imp_right fun ⟨n, line, outside⟩ => ⟨n, line, ?_⟩))
      refine Bool.eq_false_iff.mpr fun sampled => ?_
      obtain ⟨k, small, at_k⟩ := (sampledLine_iff n).mp sampled
      exact outside k small at_k
    · exact h.1

end Sys2Proof.Machine

/-! Sync timing: how a running probe takes frame pulses and line pulses (R50 to R55). -/

namespace Sys2Proof.Machine

/-! ## A probe at a frame pulse (R50, R52, R53) -/

/-- The line count of the frame that a frame pulse ends, and the one the next frame opens with (R52, log 3). -/
def Measure.split (m : Measure) (co : Bool) (n : Nat) : Nat × Nat :=
  (if co = true ∧ m.opening = false then n - 1 else n, if co then 1 else 0)

theorem Measure.split_eq (m : Measure) (co : Bool) (n : Nat) :
    (if m.opening then (n, bit co) else splitFrame co n) = m.split co n := by
  unfold Measure.split
  cases m.opening <;> cases co <;> simp [splitFrame, bit]

theorem Measure.framePulse_awaitFirst {m : Measure} (phase : m.phase = .awaitFirst) (now : Nat) (co : Bool) :
    m.framePulse now co = .goes { m with
      watchFrom := now, opening := false, phase := .countA, firstAt := some now, countA := some (if co then 1 else 0) } := by
  unfold Measure.framePulse
  dsimp only
  rw [phase]
  rfl

/-- The second frame pulse ends count A (R50, R53). -/
theorem Measure.framePulse_countA {m : Measure} {n : Nat} (phase : m.phase = .countA) (count : m.countA = some n)
    (now : Nat) (co : Bool) :
    m.framePulse now co =
      if (m.split co n).1 = 0 then
        .ends (Measure.failRecord { m with watchFrom := now, opening := false, countA := some (m.split co n).1 } .noHsync)
      else .goes { m with
        watchFrom := now, opening := false, phase := .countB, countA := some (m.split co n).1
        countB := some (m.split co n).2 } := by
  unfold Measure.framePulse
  simp only [Measure.split_eq]
  rw [phase, count]
  rfl

/-- The third frame pulse ends count B (R50, R53, R54). -/
theorem Measure.framePulse_countB {m : Measure} {n : Nat} (phase : m.phase = .countB) (count : m.countB = some n)
    (now : Nat) (co : Bool) :
    m.framePulse now co =
      if (m.split co n).1 = 0 then
        .ends (Measure.failRecord { m with watchFrom := now, opening := false, countB := some (m.split co n).1 } .noHsync)
      else Measure.finished { m with
        watchFrom := now, opening := false, phase := .framesDone, countB := some (m.split co n).1 } := by
  unfold Measure.framePulse
  simp only [Measure.split_eq]
  rw [phase, count]
  rfl

theorem Measure.framePulse_framesDone {m : Measure} (phase : m.phase = .framesDone) (now : Nat) (co : Bool) :
    m.framePulse now co = .goes { m with watchFrom := now, opening := false } := by
  unfold Measure.framePulse
  dsimp only
  rw [phase]

theorem Measure.finished_of_done {m : Measure} {t a b : Nat} (phase : m.phase = .framesDone) (line : m.line = .done t)
    (first : m.countA = some a) (second : m.countB = some b) : m.finished = .ends (goodRecord t a b) := by
  rw [Measure.finished, phase, line, first, second]

theorem Measure.finished_of_running {m : Measure} (line : ∀ t, m.line ≠ .done t) : m.finished = .goes m := by
  unfold Measure.finished
  split
  next t _ _ _ done _ _ => exact absurd done (line t)
  next => rfl

/-! ## A probe at a line pulse (R51, R52) -/

/-- A line pulse in a frame whose lines are counted, while the line-period count goes on (R51, R52). -/
theorem Measure.linePulse_counted {m : Measure} {now n : Nat} {opens : Bool} {l : LinePeriod}
    (fits : opens = true ∨ n < 1023)
    (counts : m.phase = .countA ∧ m.countA = some n ∨ m.phase = .countB ∧ m.countB = some n)
    (period : m.line.linePulse m.firstAt now = some l) :
    m.linePulse now opens = .goes
      (if opens then { m with line := l, opening := true }
       else if m.phase = .countA then { m with line := l, countA := some (n + 1), opening := false }
       else { m with line := l, countB := some (n + 1), opening := false }) := by
  unfold Measure.linePulse
  rw [period]
  rcases counts with ⟨phase, count⟩ | ⟨phase, count⟩
  · rw [phase, count, if_neg (by decide)]
    cases opens with
    | true => rfl
    | false =>
      have room : n < 1023 := fits.resolve_left (by decide)
      simp [oneMoreLine, room]
  · rw [phase, count, if_neg (by decide)]
    cases opens with
    | true => rfl
    | false =>
      have room : n < 1023 := fits.resolve_left (by decide)
      simp [oneMoreLine, room]

theorem LinePeriod.linePulse_starts {first : Option Nat} {now : Nat} (later : first ≠ some now) :
    LinePeriod.linePulse .notStarted first now = some (.running 0 now) := congrArg some (if_neg later)

theorem LinePeriod.linePulse_same {first : Option Nat} {now : Nat} (same : first = some now) :
    LinePeriod.linePulse .notStarted first now = some .notStarted := congrArg some (if_pos same)

theorem LinePeriod.linePulse_passed {k start now : Nat} (past : 16777215 < now - start) (first : Option Nat) :
    LinePeriod.linePulse (.running k start) first now = none := if_pos past

theorem LinePeriod.linePulse_running {k start now : Nat} (within : now - start ≤ 16777215) (few : k < 255)
    (first : Option Nat) : LinePeriod.linePulse (.running k start) first now = some (.running (k + 1) start) :=
  (if_neg (Nat.not_lt.mpr within)).trans (if_neg (by omega))

theorem LinePeriod.linePulse_last {start now : Nat} (within : now - start ≤ 16777215) (later : start < now)
    (first : Option Nat) : LinePeriod.linePulse (.running 255 start) first now = some (.done (now - start)) :=
  (if_neg (Nat.not_lt.mpr within)).trans (by rw [if_pos rfl, Nat.max_eq_right (by omega)])

/-- A failure before the frame watch ends (R55). -/
theorem Measure.fails_of_watched {m : Measure} {now : Nat} (watched : now < m.watchFrom + 4800000) (v : Verdict) :
    m.fails now v = .ends (m.failRecord v) := by
  have early : ¬ m.watchEnd ≤ now := Nat.not_le.mpr watched
  rw [Measure.fails, if_neg early]

theorem Measure.linePulse_passed {m : Measure} {now k start : Nat} (watched : now < m.watchFrom + 4800000)
    (phase : m.phase ≠ .awaitFirst) (line : m.line = .running k start) (past : 16777215 < now - start) (opens : Bool) :
    m.linePulse now opens = .ends (m.failRecord .noHsync) := by
  unfold Measure.linePulse
  rw [if_neg phase, line, LinePeriod.linePulse_passed past]
  exact Measure.fails_of_watched watched _

/-- The 1,024th line of a frame (R52). -/
theorem Measure.linePulse_over {m : Measure} {now t : Nat} (watched : now < m.watchFrom + 4800000)
    (line : m.line = .done t)
    (full : m.phase = .countA ∧ m.countA = some 1023 ∨ m.phase = .countB ∧ m.countB = some 1023) :
    m.linePulse now false = .ends (m.failRecord .linesOver) := by
  refine Eq.trans ?_ (Measure.fails_of_watched watched .linesOver)
  obtain ⟨req, phase, watchFrom, firstAt, line', countA, countB, opening, released⟩ := m
  obtain rfl : line' = .done t := line
  rcases full with ⟨rfl, rfl⟩ | ⟨rfl, rfl⟩ <;> rfl

/-- After the third frame pulse only the line-period count goes on (R54). -/
theorem Measure.linePulse_framesDone {m : Measure} {now : Nat} {l : LinePeriod} (phase : m.phase = .framesDone)
    (period : m.line.linePulse m.firstAt now = some l) (opens : Bool) :
    m.linePulse now opens = Measure.finished { m with line := l } := by
  unfold Measure.linePulse
  rw [period, phase]
  rfl

/-- Settles O38. -/
theorem probeTakesPulses : Obligations.ProbeTakesPulses := by
  refine ⟨fun m now co => ⟨fun phase => ?_, fun n phase count lines => ?_, fun n phase count zero => ?_,
    fun n phase count zero => ?_, fun n t a phase count lines first done => ?_, fun n phase count lines running => ?_,
    fun phase => ?_⟩, fun m now opens watched => ⟨fun phase => if_pos phase, fun first n at' fits counts =>
      ⟨fun fresh later => ?_, fun fresh same => ?_, fun k start line within few => ?_, fun start line within later => ?_,
        fun t line => ?_⟩, fun k start phase line past => Measure.linePulse_passed watched phase line past opens,
      fun t line ahead full => ?_, fun phase => ⟨fun k start line within few => ?_,
        fun start a b line within later first second => ?_⟩⟩⟩
  · exact Measure.framePulse_awaitFirst phase now co
  · exact (Measure.framePulse_countA phase count now co).trans (if_neg lines)
  · exact (Measure.framePulse_countA phase count now co).trans ((if_pos zero).trans (congrArg (fun x => ProbeStep.ends
      (Measure.failRecord { m with watchFrom := now, opening := false, countA := some x } .noHsync)) zero))
  · exact (Measure.framePulse_countB phase count now co).trans ((if_pos zero).trans (congrArg (fun x => ProbeStep.ends
      (Measure.failRecord { m with watchFrom := now, opening := false, countB := some x } .noHsync)) zero))
  · exact (Measure.framePulse_countB phase count now co).trans ((if_neg lines).trans
      (Measure.finished_of_done rfl done first rfl))
  · exact (Measure.framePulse_countB phase count now co).trans ((if_neg lines).trans
      (Measure.finished_of_running running))
  · exact Measure.framePulse_framesDone phase now co
  · exact Measure.linePulse_counted fits counts (by rw [fresh, at', LinePeriod.linePulse_starts (by simpa using later)])
  · exact Measure.linePulse_counted fits counts (by rw [fresh, at', LinePeriod.linePulse_same (congrArg Option.some same)])
  · exact Measure.linePulse_counted fits counts (by rw [line, LinePeriod.linePulse_running within few])
  · exact Measure.linePulse_counted fits counts (by rw [line, LinePeriod.linePulse_last within later])
  · exact Measure.linePulse_counted fits counts (by rw [line]; rfl)
  · subst ahead
    exact Measure.linePulse_over watched line full
  · exact (Measure.linePulse_framesDone phase (by rw [line, LinePeriod.linePulse_running within few]) opens).trans
      (Measure.finished_of_running fun t done => by cases done)
  · exact (Measure.linePulse_framesDone (l := .done (now - start)) phase
      (by rw [line, LinePeriod.linePulse_last within later]) opens).trans (Measure.finished_of_done phase rfl first second)

end Sys2Proof.Machine

/-! Sync taps: edges, levels and pulse levels, and how pulses reach an engine (R42 to R44, R52, R67, R68). -/

namespace Sys2Proof.Machine

/-! ## Taps -/

theorem State.modTap_congr {s : State} {i : SlotNo} {f g : Tap → Tap} (h : f (s.tap i) = g (s.tap i)) :
    s.modTap i f = s.modTap i g := by
  simp [State.modTap, h]

/-! ## Pulses of a slot that no engine, or one engine, measures (R42, R44) -/

theorem State.engineOn_iff (s : State) (k : EngineNo) (i : SlotNo) :
    s.engineOn k i = true ↔ ∃ m, s.engine k = some m ∧ m.req.slot = i := by
  unfold State.engineOn
  cases s.engine k <;> simp

theorem State.role_modTap (s : State) (i j : SlotNo) (f : Tap → Tap) : (s.modTap i f).role j = s.role j := rfl

theorem State.role_of_dark {s : State} (dark : s.out.mode = .dark) (i : SlotNo) : s.role i = .none := by
  unfold State.role
  rw [dark]

theorem State.linePulse_of_unmeasured {s : State} {i : SlotNo} (zero : s.engineOn 0 i = false) (one : s.engineOn 1 i = false)
    (opens : Bool) :
    s.linePulse i opens = (s.modTap i fun t => { t with lastLine := some s.now }).roleLine (s.role i) := by
  unfold State.linePulse
  dsimp only
  rw [zero, one]
  exact if_pos rfl

theorem State.framePulse_of_unmeasured {s : State} {i : SlotNo} (zero : s.engineOn 0 i = false)
    (one : s.engineOn 1 i = false) :
    s.framePulse i = (s.modTap i fun t => { t with lastFrame := some s.now }).roleFrame i (s.lineNow i) (s.role i) := by
  unfold State.framePulse
  dsimp only
  rw [zero, one]
  exact if_pos rfl

/-- An engine's probe goes on. -/
theorem State.cascade_goes {s : State} (done : s.todo = []) (k : EngineNo) (n : Measure) :
    (s.probeStep k (.goes n)).cascade = s.setEngine k (some n) := run_of_no_task _ _ done

/-- Of the two engines only one takes a line pulse. -/
theorem State.engineLineIf_both {s : State} {k : EngineNo} {m n : Measure} {ahead : Bool}
    (done : s.todo = []) (at_k : s.engine k = some m) (step : m.linePulse s.now ahead = .goes n)
    {on : EngineNo → Bool} (mine : on k = true) (other : ∀ j, j ≠ k → on j = false) :
    (s.engineLineIf 0 (on 0) ahead).engineLineIf 1 (on 1) ahead = s.setEngine k (some n) := by
  have taken : s.engineLineIf k true ahead = s.setEngine k (some n) := by
    refine Eq.trans ?_ (State.cascade_goes done k n)
    rw [State.engineLineIf, if_pos rfl, State.engineLine, at_k]
    dsimp only
    rw [step]
  match k with
  | 0 => rw [mine, other 1 (by decide), taken]; rfl
  | 1 => rw [mine, other 0 (by decide)]; exact taken

/-- Of the two engines only one takes a frame pulse. -/
theorem State.engineFrameIf_both {s : State} {k : EngineNo} {m n : Measure} {co : Bool}
    (done : s.todo = []) (at_k : s.engine k = some m) (step : m.framePulse s.now co = .goes n)
    {on : EngineNo → Bool} (mine : on k = true) (other : ∀ j, j ≠ k → on j = false) :
    (s.engineFrameIf 0 (on 0) co).engineFrameIf 1 (on 1) co = s.setEngine k (some n) := by
  have taken : s.engineFrameIf k true co = s.setEngine k (some n) := by
    refine Eq.trans ?_ (State.cascade_goes done k n)
    rw [State.engineFrameIf, if_pos rfl, State.engineFrame, at_k]
    dsimp only
    rw [step]
  match k with
  | 0 => rw [mine, other 1 (by decide), taken]; rfl
  | 1 => rw [mine, other 0 (by decide)]; exact taken

section
variable {s : State} {i : SlotNo} {k : EngineNo} {m n : Measure}

theorem State.linePulse_of_measured (done : s.todo = []) (dark : s.out.mode = .dark) (at_k : s.engine k = some m)
    (slot : m.req.slot = i) (other : ∀ j, j ≠ k → s.engineOn j i = false) {opens : Bool}
    (step : m.linePulse s.now (opens && !s.frameNow i) = .goes n) :
    s.linePulse i opens = (s.modTap i fun t => { t with lastLine := some s.now }).setEngine k (some n) := by
  have both := State.engineLineIf_both (s := s.modTap i fun t => { t with lastLine := some s.now }) done at_k step
    (on := fun j => s.engineOn j i) ((s.engineOn_iff k i).mpr ⟨m, at_k, slot⟩) other
  unfold State.linePulse
  dsimp only at both ⊢
  rw [both, State.role_of_dark dark]
  exact if_pos (State.role_of_dark (s := State.setEngine _ _ _) dark i)

theorem State.framePulse_of_measured (done : s.todo = []) (dark : s.out.mode = .dark) (at_k : s.engine k = some m)
    (slot : m.req.slot = i) (other : ∀ j, j ≠ k → s.engineOn j i = false)
    (step : m.framePulse s.now (s.lineNow i) = .goes n) :
    s.framePulse i = (s.modTap i fun t => { t with lastFrame := some s.now }).setEngine k (some n) := by
  have both := State.engineFrameIf_both (s := s.modTap i fun t => { t with lastFrame := some s.now }) done at_k step
    (on := fun j => s.engineOn j i) ((s.engineOn_iff k i).mpr ⟨m, at_k, slot⟩) other
  unfold State.framePulse
  dsimp only at both ⊢
  rw [both, State.role_of_dark dark]
  exact if_pos (State.role_of_dark (s := State.setEngine _ _ _) dark i)

end

/-! ## Edges (R42, R43) -/

section
variable {dt : Nat} {s t : State}

theorem exec_linePulse_ignored {e : LineEdge} (h : s.Between) (off : (s.tap e.slot).linePulseHigh ≠ e.high) :
    exec (.linePulse dt e) s = .next ((s.advance dt).setLineLevel e).beginMessage := by
  unfold exec execLinePulse
  exact livePin_of_bare h (if_neg off) h.1

theorem exec_framePulse_ignored {e : FrameEdge} (h : s.Between)
    (off : (s.tap e.slot).framePulseHigh ≠ e.high ∨ e.width < 401) :
    exec (.framePulse dt e) s = .next ((s.advance dt).setFrameLevel e).beginMessage := by
  unfold exec execFramePulse
  refine livePin_of_bare h (if_neg fun both => ?_) h.1
  exact off.elim (absurd both.1) fun narrow => absurd both.2 (Nat.not_le.mpr narrow)

theorem exec_linePulse_edge {e : LineEdge} (h : s.Between) (edge : (s.tap e.slot).linePulseHigh = e.high)
    (taken : ((s.advance dt).setLineLevel e).linePulse e.slot e.opens = t) (bare : t.todo = []) :
    exec (.linePulse dt e) s = .next t.beginMessage := by
  unfold exec execLinePulse
  exact livePin_of_bare h ((if_pos edge).trans taken) bare

/-- A frame pulse, with the tasks it brings about. -/
theorem exec_framePulse_finish {e : FrameEdge} (h : s.Between) (edge : (s.tap e.slot).framePulseHigh = e.high)
    (wide : 401 ≤ e.width) :
    exec (.framePulse dt e) s = .next (((s.advance dt).setFrameLevel e).framePulse e.slot).finish := by
  unfold exec execFramePulse
  exact (livePin_of_between _ _ _ _ h).trans (congrArg (fun t : State => Host.Outcome.next t.finish) (if_pos ⟨edge, wide⟩))

theorem exec_framePulse_edge {e : FrameEdge} (h : s.Between) (edge : (s.tap e.slot).framePulseHigh = e.high)
    (wide : 401 ≤ e.width) (taken : ((s.advance dt).setFrameLevel e).framePulse e.slot = t) (bare : t.todo = []) :
    exec (.framePulse dt e) s = .next t.beginMessage := by
  rw [exec_framePulse_finish h edge wide, taken, State.finish_of_no_task _ bare]

end

/-- The tap after a line pulse. -/
def State.lined (s : State) (i : SlotNo) : State :=
  s.modTap i fun t => { t with lineHigh := t.linePulseHigh, lastLine := some s.now }

/-- The tap after a frame pulse. -/
def State.framed (s : State) (i : SlotNo) : State :=
  s.modTap i fun t => { t with frameHigh := t.framePulseHigh, lastFrame := some s.now }

theorem State.setLineLevel_frameNow (s : State) (e : LineEdge) : (s.setLineLevel e).frameNow e.slot = s.frameNow e.slot := by
  simp [State.frameNow, State.setLineLevel]

theorem State.setFrameLevel_lineNow (s : State) (e : FrameEdge) :
    (s.setFrameLevel e).lineNow e.slot = s.lineNow e.slot := by
  simp [State.lineNow, State.setFrameLevel]

theorem State.lined_eq {s : State} {i : SlotNo} {high : Bool} (edge : (s.tap i).linePulseHigh = high) (opens : Bool) :
    ((s.setLineLevel { slot := i, high := high, opens := opens }).modTap i fun t => { t with lastLine := some s.now }) =
      s.lined i := by
  rw [State.setLineLevel, State.modTap_modTap]
  exact State.modTap_congr (by rw [edge])

theorem State.framed_eq {s : State} {i : SlotNo} {high : Bool} (edge : (s.tap i).framePulseHigh = high) (width : Nat) :
    ((s.setFrameLevel { slot := i, high := high, width := width }).modTap i fun t => { t with lastFrame := some s.now }) =
      s.framed i := by
  rw [State.setFrameLevel, State.modTap_modTap]
  exact State.modTap_congr (by rw [edge])

/-- LINE_PULSE of a slot that no engine measures, in the role it plays for the output (R42). -/
theorem exec_linePulse_unmeasured {dt : Nat} {s : State} {i : SlotNo} (h : s.Between) (zero : s.engineOn 0 i = false)
    (one : s.engineOn 1 i = false) (opens : Bool) {t : State}
    (taken : ((s.advance dt).lined i).roleLine (s.role i) = t) (bare : t.todo = []) :
    exec (.linePulse dt { slot := i, high := (s.tap i).linePulseHigh, opens := opens }) s = .next t.beginMessage := by
  have pulse := State.linePulse_of_unmeasured (s := (s.advance dt).setLineLevel ⟨i, (s.tap i).linePulseHigh, opens⟩)
    zero one opens
  refine exec_linePulse_edge h rfl (pulse.trans (Eq.trans ?_ taken)) bare
  exact congrArg (fun t : State => t.roleLine (s.role i)) (State.lined_eq (s := s.advance dt) rfl opens)

/-- FRAME_PULSE of a slot that no engine measures, in the role it plays for the output (R42). -/
theorem exec_framePulse_unmeasured {dt width : Nat} {s : State} {i : SlotNo} (h : s.Between) (wide : 401 ≤ width)
    (zero : s.engineOn 0 i = false) (one : s.engineOn 1 i = false) :
    exec (.framePulse dt { slot := i, high := (s.tap i).framePulseHigh, width := width }) s =
      .next (((s.advance dt).framed i).roleFrame i ((s.advance dt).lineNow i) (s.role i)).finish := by
  have pulse := State.framePulse_of_unmeasured (s := (s.advance dt).setFrameLevel ⟨i, (s.tap i).framePulseHigh, width⟩)
    zero one
  rw [State.setFrameLevel_lineNow (e := ⟨i, (s.tap i).framePulseHigh, width⟩)] at pulse
  refine (exec_framePulse_finish h rfl wide).trans (congrArg (fun t : State => Host.Outcome.next t.finish) (pulse.trans ?_))
  exact congrArg (fun t : State => t.roleFrame i ((s.advance dt).lineNow i) (s.role i))
    (State.framed_eq (s := s.advance dt) rfl width)

/-! ## Sync to the monitor (R67, R68) -/

theorem negativeGoing_eq_false_iff (pulse : Bool) : negativeGoing pulse = false ↔ pulse = true := by
  cases pulse <;> decide

theorem State.monitorSync_of_slot {s : State} {i : SlotNo} (sync : s.out.sync = .slot i) :
    s.monitorSync = (s.tap i).sync := by
  rw [State.monitorSync, sync]

theorem State.monitorSync_of_bridge {s : State} (sync : s.out.sync = .bridge) : s.monitorSync = s.bridgeSync := by
  rw [State.monitorSync, sync]

/-! ## Pulse levels (R43) -/

theorem nextPulseLevel_eq {low : Nat} (within : low ≤ 1048576) (high : Bool) :
    nextPulseLevel high low = if low < 524288 then false else if 524288 < low then true else high := by
  unfold nextPulseLevel
  have window : windowTicks = 1048576 := rfl
  rw [window]
  refine if_congr (by omega) rfl (if_congr (by omega) rfl rfl)

/-- Settles O39. -/
theorem pulsesReachEngineAndSetLevels : Obligations.PulsesReachEngineAndSetLevels := by
  refine ⟨fun dt i high opens width s h => ⟨exec_linePulse_ignored (e := ⟨i, high, opens⟩) h,
      exec_framePulse_ignored (e := ⟨i, high, width⟩) h⟩,
    fun s => ⟨fun i sync => ?_, fun sync => ?_⟩, fun dt i opens width s h dark wide => ⟨fun zero one => ⟨?_, ?_⟩,
      fun k m n at_k slot other => ⟨fun step => ?_, fun step => ?_⟩⟩, fun dt i lineLow frameLow s h line frame => ?_⟩
  · simp [State.monitorSyncLevels, negativeGoing_eq_false_iff, State.monitorSync_of_slot sync, Tap.sync]
  · rw [State.monitorSyncLevels, State.monitorSync_of_bridge sync]
    exact ⟨(negativeGoing_eq_false_iff _).trans decide_eq_true_iff, (negativeGoing_eq_false_iff _).trans decide_eq_true_iff⟩
  · exact exec_linePulse_unmeasured h zero one opens (by rw [State.role_of_dark dark]; rfl) h.1
  · refine (exec_framePulse_unmeasured h wide zero one).trans ?_
    rw [State.role_of_dark dark]
    exact congrArg Host.Outcome.next (State.finish_of_no_task _ h.1)
  · have taken := State.linePulse_of_measured (s := (s.advance dt).setLineLevel ⟨i, (s.tap i).linePulseHigh, opens⟩)
      (n := n) (opens := opens) h.1 dark at_k slot other
        (by rw [State.setLineLevel_frameNow, State.frameNow, ← decide_not]; exact step)
    refine exec_linePulse_edge h rfl (taken.trans ?_) h.1
    exact congrArg (fun t : State => t.setEngine k (some n)) (State.lined_eq (s := s.advance dt) rfl opens)
  · have taken := State.framePulse_of_measured (s := (s.advance dt).setFrameLevel ⟨i, (s.tap i).framePulseHigh, width⟩)
      (n := n) h.1 dark at_k slot other (by rw [State.setFrameLevel_lineNow, State.lineNow]; exact step)
    refine exec_framePulse_edge h rfl wide (taken.trans ?_) h.1
    exact congrArg (fun t : State => t.setEngine k (some n)) (State.framed_eq (s := s.advance dt) rfl width)
  · unfold exec execPulseLevelWindowEnd
    refine live_of_bare h ?_ (by exact h.1)
    simp only [nextPulseLevel_eq line, nextPulseLevel_eq frame]

end Sys2Proof.Machine

/-! The bridge's frame starts and the class settle deadline (R69, R100); the ends of probes and what their records do (R51 to
R63, R82, R158). -/

namespace Sys2Proof.Machine

/-! ## Bridge frames and the class settle deadline (R69, R100, R101) -/

/-- ALIGN with its 250 ms timer, for a changeover that stands (R101). -/
theorem State.startAlign_of_some {s : State} {c : Change} (chg : s.chg = some c) :
    s.startAlign =
      { s with chg := some { c with stage := .align, cut := { Cut.none with timer := some (s.now + 12000000) } } } := by
  rw [State.startAlign, State.modChange, chg]
  rfl

theorem State.reclassFrame_of_other {s : State} (h : ∀ c, s.chg = some c → c.stage ≠ .reclass ∨ c.starts = none) :
    s.reclassFrame = s := by
  unfold State.reclassFrame
  split
  next => rfl
  next c chg =>
    split
    next n stage starts =>
      rcases h c chg with other | uncounted
      · exact absurd stage other
      · cases starts.symm.trans uncounted
    next => rfl

/-- A bridge frame start in a RECLASS that counts them (R100). -/
theorem State.reclassFrame_of_counting {s : State} {c : Change} {n : Nat} (chg : s.chg = some c)
    (stage : c.stage = .reclass) (starts : c.starts = some n) :
    s.reclassFrame =
      if 2 ≤ n ∧ s.classDeadline ≤ s.now then { s with chg := some { c with
        starts := some (min 3 (n + 1)), stage := .align, cut := { Cut.none with timer := some (s.now + 12000000) } } }
      else { s with chg := some { c with starts := some (min 3 (n + 1)) } } := by
  unfold State.reclassFrame
  rw [chg]
  dsimp only
  rw [stage, starts]
  dsimp only
  have counted : (s.modChange fun c => { c with starts := some (min 3 (n + 1)) }) =
      { s with chg := some { c with starts := some (min 3 (n + 1)) } } := by
    rw [State.modChange, chg]
    rfl
  rw [counted]
  exact if_congr Iff.rfl
    (State.startAlign_of_some (s := { s with chg := some { c with starts := some (min 3 (n + 1)) } }) rfl) (by rw [stage])

theorem State.reclassDeadline_of_align {s : State} {c : Change} (chg : s.chg = some c) (stage : c.stage = .reclass)
    (ready : c.starts = none ∨ ∃ n, c.starts = some n ∧ 3 ≤ n) : s.reclassDeadline = s.startAlign := by
  unfold State.reclassDeadline
  rw [chg]
  dsimp only
  rcases ready with starts | ⟨n, starts, three⟩
  · rw [stage, starts]
  · rw [stage, starts]
    exact if_pos three

theorem State.reclassDeadline_of_other {s : State}
    (h : ∀ c, s.chg = some c → c.stage ≠ .reclass ∨ ∃ n, c.starts = some n ∧ n < 3) : s.reclassDeadline = s := by
  unfold State.reclassDeadline
  split
  next => rfl
  next c chg =>
    rcases h c chg with other | ⟨n, starts, few⟩
    · split
      next stage _ => exact absurd stage other
      next stage _ => exact absurd stage other
      next => rfl
    · rw [starts]
      split
      next starts' => cases starts'
      next starts' =>
        cases starts'
        exact if_neg (by omega)
      next => rfl

theorem exec_bridgeFrameStart {dt : Nat} {s t : State} (h : s.Between)
    (taken : (((s.advance dt).reach (s.out.frameStart + s.out.current.ticks * s.out.current.lines)).frameStarts).reclassFrame
      = t) (bare : t.todo = []) : exec (.bridgeFrameStart dt) s = .next t.beginMessage := by
  unfold exec execBridgeFrameStart
  exact live_of_bare h taken bare

/-- Settles O41. -/
theorem bridgeFramesAndDeadlineBeginAlign : Obligations.BridgeFramesAndDeadlineBeginAlign := by
  refine ⟨fun dt s h => ⟨fun other => exec_bridgeFrameStart h (State.reclassFrame_of_other other) h.1,
    fun c n chg stage starts => ⟨fun early => ?_, fun two passed => ?_⟩⟩, fun dt s h =>
      ⟨fun c chg stage ready => ?_, fun other => ?_⟩⟩
  · have taken := State.reclassFrame_of_counting
      (s := ((s.advance dt).reach (s.out.frameStart + s.out.current.ticks * s.out.current.lines)).frameStarts) chg stage starts
    refine exec_bridgeFrameStart h (taken.trans (if_neg ?_)) h.1
    rintro ⟨two, passed⟩
    exact early.elim (Nat.not_lt.mpr two) (Nat.not_lt.mpr passed)
  · have taken := State.reclassFrame_of_counting
      (s := ((s.advance dt).reach (s.out.frameStart + s.out.current.ticks * s.out.current.lines)).frameStarts) chg stage starts
    exact exec_bridgeFrameStart h (taken.trans (if_pos ⟨two, passed⟩)) h.1
  · unfold exec execClassSettleDeadline
    exact live_of_bare h ((State.reclassDeadline_of_align (s := (s.advance dt).reach s.classDeadline) chg stage ready).trans
      (State.startAlign_of_some (s := (s.advance dt).reach s.classDeadline) chg)) h.1
  · unfold exec execClassSettleDeadline
    exact live_of_bare h (State.reclassDeadline_of_other (s := (s.advance dt).reach s.classDeadline) other) h.1

end Sys2Proof.Machine

/-! The ends of probes, and what their records do to the slot and to a held output (R51 to R63, R82, R158). -/

namespace Sys2Proof.Machine

/-! ## The end of a probe (R51, R53, R63) -/

theorem State.endProbe_of_released {s : State} {k : EngineNo} {m : Measure} (at_k : s.engine k = some m)
    (list : s.probeList = []) (released : m.released = true) (p : ProbeRecord) : s.endProbe k p = s.setEngine k none := by
  unfold State.endProbe
  rw [at_k]
  exact (if_pos released).trans (State.takeEngines_of_nil list)

/-- The task that hands a probe's record over (R63). -/
def ProbeRequest.handsOver (q : ProbeRequest) (p : ProbeRecord) : Task :=
  match q.kind with
  | .work => .probeDone q.slot p
  | .output => .outputProbeDone q.slot p

theorem State.endProbe_of_kept {s : State} {k : EngineNo} {m : Measure} (at_k : s.engine k = some m)
    (list : s.probeList = []) (kept : m.released = false) (p : ProbeRecord) :
    s.endProbe k p = (s.setEngine k none).push [m.req.handsOver p] := by
  unfold State.endProbe
  rw [at_k]
  refine (if_neg (by simp [kept])).trans ?_
  rw [State.takeEngines_of_nil (s := s.setEngine k none) list]
  unfold ProbeRequest.handsOver
  cases m.req.kind <;> rfl

theorem exec_probeFrameWatchEnd {dt : Nat} {k : EngineNo} {s : State} {m : Measure} (h : s.Between)
    (at_k : s.engine k = some m) :
    exec (.probeFrameWatchEnd dt k) s =
      .next (((s.advance dt).reach (m.watchFrom + 4800000)).endProbe k (m.failRecord .noVsync)).finish := by
  unfold exec execProbeFrameWatchEnd
  refine (live_of_between dt _ s h).trans (congrArg (fun t : State => Host.Outcome.next t.finish) ?_)
  have at_k' : (s.advance dt).engine k = some m := at_k
  rw [State.frameWatchEnds, at_k']
  rfl

theorem exec_linePeriodOverflow {dt : Nat} {k : EngineNo} {s : State} {m : Measure} {n start : Nat} (h : s.Between)
    (at_k : s.engine k = some m) (line : m.line = .running n start)
    (watched : max (s.advance dt).now (start + 16777216) < m.watchFrom + 4800000) :
    exec (.linePeriodOverflow dt k) s =
      .next (((s.advance dt).reach (start + 16777216)).endProbe k (m.failRecord .noHsync)).finish := by
  unfold exec execLinePeriodOverflow
  refine (live_of_between dt _ s h).trans (congrArg (fun t : State => Host.Outcome.next t.finish) ?_)
  have at_k' : (s.advance dt).engine k = some m := at_k
  rw [State.lineOverflows, at_k']
  dsimp only
  rw [line]
  dsimp only
  rw [Measure.fails_of_watched (by exact watched)]
  rfl

/-! ## Changes of slot state change that record and the link (R6, R17) -/

theorem State.outNotice_eq (s : State) (cause : OutCause) :
    s.outNotice cause = { s with link := (s.outNotice cause).link } := s.notice_eq _ _

theorem State.setState_eq (s : State) (i : SlotNo) (st : SlotState) :
    s.setState i st = { s.modSlot i fun sl => { sl with state := st } with link := (s.setState i st).link } := by
  unfold State.setState
  dsimp only
  split
  · rfl
  · exact State.notice_eq _ _ _

theorem State.faultSlot_eq (s : State) (i : SlotNo) (r : Result) :
    s.faultSlot i r =
      { s.modSlot i fun sl => { sl with state := .fault, lastFault := some r } with link := (s.faultSlot i r).link } := by
  have set := State.setState_eq (s.modSlot i fun sl => { sl with lastFault := some r }) i .fault
  rw [State.modSlot_modSlot] at set
  exact set

/-- Notices on the same link leave the same link. -/
theorem State.notice_link_congr {s t : State} (h : s.link = t.link) (k : NoticeKey) (body : List Byte) :
    (s.notice k body).link = (t.notice k body).link := by
  unfold State.notice
  rw [h]
  split <;> simp [State.modLink, h]

/-- A slot's record with a probe's verdict applied (R15, R160). -/
def Slot.probed (sl : Slot) (p : ProbeRecord) : Slot :=
  if sl.faultAtEnd then
    { sl with state := .fault, lastFault := some .syncLost, lastProbe := some p, probeReturn := none, faultAtEnd := false }
  else if p.verdict = .good then { sl with state := .ready, lastProbe := some p, probeReturn := none }
  else { sl with state := .fault, lastFault := some p.verdict.result, lastProbe := some p, probeReturn := none }

theorem State.settleTo_of_expired {s : State} {i : SlotNo} (h : (s.slot i).faultAtEnd = true) (st : SlotState) :
    s.settleTo i st = (s.modSlot i fun sl => { sl with faultAtEnd := false }).faultSlot i .syncLost := if_pos h

theorem State.settleVerdict_good (s : State) (i : SlotNo) : s.settleVerdict i .good = s.settleTo i .ready := rfl

theorem State.settleVerdict_bad (s : State) (i : SlotNo) {v : Verdict} (bad : v ≠ .good) :
    s.settleVerdict i v = if (s.slot i).faultAtEnd then s.settleTo i .fault else s.faultSlot i v.result := by
  cases v
  case good => exact absurd rfl bad
  all_goals rfl

/-- Changes of a slot's record that agree on the record as it stands, with a new link. -/
theorem State.modSlot_link_congr {s : State} {i : SlotNo} {f g : Slot → Slot} (h : f (s.slot i) = g (s.slot i)) (l : Link) :
    ({ s.modSlot i f with link := l } : State) = { s.modSlot i g with link := l } := by
  rw [State.modSlot_congr h]

theorem State.setState_change (s : State) (i : SlotNo) (f : Slot → Slot) (st : SlotState) :
    ∃ l, (s.modSlot i f).setState i st = { s.modSlot i fun sl => { f sl with state := st } with link := l } := by
  have e := (s.modSlot i f).setState_eq i st
  rw [State.modSlot_modSlot] at e
  exact ⟨_, e⟩

theorem State.faultSlot_change (s : State) (i : SlotNo) (f : Slot → Slot) (r : Result) :
    ∃ l, (s.modSlot i f).faultSlot i r =
      { s.modSlot i fun sl => { f sl with state := .fault, lastFault := some r } with link := l } := by
  have e := (s.modSlot i f).faultSlot_eq i r
  rw [State.modSlot_modSlot] at e
  exact ⟨_, e⟩

/-- A record stored and applied changes the slot's record and the link only (R15, R160). -/
theorem State.applyProbe_eq (s : State) (i : SlotNo) (p : ProbeRecord) :
    ∃ l, s.applyProbe i p = { s.modSlot i fun sl => sl.probed p with link := l } := by
  unfold State.applyProbe
  cases plain : (s.slot i).faultAtEnd with
  | true =>
    have flag : ((s.modSlot i fun sl =>
        { sl with lastProbe := some p, probeReturn := none }).slot i).faultAtEnd = true := by
      simp [plain]
    have expired : (s.modSlot i fun sl => { sl with lastProbe := some p, probeReturn := none }).settleVerdict i p.verdict =
        (s.modSlot i fun sl => { sl with lastProbe := some p, probeReturn := none, faultAtEnd := false }).faultSlot i
          .syncLost := by
      by_cases good : p.verdict = .good
      · rw [good, State.settleVerdict_good, State.settleTo_of_expired flag, State.modSlot_modSlot]
      · rw [State.settleVerdict_bad _ _ good, if_pos flag, State.settleTo_of_expired flag, State.modSlot_modSlot]
    obtain ⟨l, e⟩ := s.faultSlot_change i
      (fun sl => { sl with lastProbe := some p, probeReturn := none, faultAtEnd := false }) .syncLost
    exact ⟨l, expired.trans (e.trans (State.modSlot_link_congr (by simp [Slot.probed, plain]) l))⟩
  | false =>
    have flag : ((s.modSlot i fun sl =>
        { sl with lastProbe := some p, probeReturn := none }).slot i).faultAtEnd = false := by
      simp [plain]
    by_cases good : p.verdict = .good
    · obtain ⟨l, e⟩ := s.setState_change i (fun sl => { sl with lastProbe := some p, probeReturn := none }) .ready
      rw [good, State.settleVerdict_good, State.settleTo_of_plain flag]
      exact ⟨l, e.trans (State.modSlot_link_congr (by simp [Slot.probed, plain, good]) l)⟩
    · obtain ⟨l, e⟩ := s.faultSlot_change i
        (fun sl => { sl with lastProbe := some p, probeReturn := none }) p.verdict.result
      rw [State.settleVerdict_bad _ _ good, if_neg (by simp [plain])]
      exact ⟨l, e.trans (State.modSlot_link_congr (by simp [Slot.probed, plain, good]) l)⟩

/-- A WORK probe's record applied to its slot, or left aside, before the tasks it brings about (R15, R63). -/
theorem State.workProbeDone_eq (s : State) (i : SlotNo) (p : ProbeRecord) :
    ∃ (f : Slot → Slot) (l : Link), s.workProbeDone i p =
        State.push { s.modSlot i f with link := l } [.targetCheck, .heldCheck i, .stepEnd i p.verdict.result (some p)] ∧
      ((s.slot i).state = .probing → f (s.slot i) = (s.slot i).probed p) ∧
      ((s.slot i).state = .active → f (s.slot i) = s.slot i) := by
  unfold State.workProbeDone
  dsimp only
  obtain ⟨l, applied⟩ := s.applyProbe_eq i p
  have kept : s = { s.modSlot i id with link := s.link } := (State.modSlot_self rfl).symm
  split
  next probing => exact ⟨_, l, by rw [applied], fun _ => rfl, fun active => by simp [active] at probing⟩
  next ready => exact ⟨_, l, by rw [applied], fun _ => rfl, fun active => by simp [active] at ready⟩
  next fault =>
    split
    · exact ⟨_, l, by rw [applied], fun _ => rfl, fun active => by simp [active] at fault⟩
    · exact ⟨id, s.link, by rw [← kept], fun probing => by simp [probing] at fault, fun _ => rfl⟩
  next probing _ _ => exact ⟨id, s.link, by rw [← kept], fun other => absurd other probing, fun _ => rfl⟩

/-! ## Records that reach a held output (R82, R158) -/

theorem State.heldSlot_iff (s : State) (i : SlotNo) :
    s.heldSlot = some i ↔ s.out.mode = .holding ∧ s.out.source = some i := by
  unfold State.heldSlot
  split
  next holding => simp [holding]
  next other => simp [other]

theorem State.rejoinable_iff (s : State) (i : SlotNo) :
    s.rejoinable i = true ↔ (s.slot i).state = .active ∨ (s.slot i).state = .ready := by
  simp [State.rejoinable]

theorem bit_and (p q : Prop) [Decidable p] [Decidable q] : bit (decide p && decide q) = if p ∧ q then 1 else 0 := by
  by_cases hp : p <;> by_cases hq : q <;> simp [hp, hq, bit]

/-- A rejoin that begins changes the output record and withdraws the OUTPUT request (R82, R83). -/
theorem State.beginRejoin_eq (s : State) (i : SlotNo) (p : ProbeRecord) (d : Derived) :
    ∃ list engines, s.beginRejoin i p d = { s with
      probeList := list, engines := engines
      out := { s.out with
        sourceProbe := some p, timing := { ticks := d.lineTicks, lines := d.frameLines }
        hold := { s.out.hold with
          rejoin := some .align, probing := false, awaitReady := false
          cut := { opened := decide ((s.tap i).lastFrame = some s.now)
                   alignCount := if (s.tap i).lastFrame = some s.now ∧ (s.tap i).lastLine = some s.now then 1 else 0
                   settleCount := 0, settleFrames := 0, timer := some (s.now + 12000000) } } } } := by
  refine ⟨(s.withdrawOutput i).probeList, (s.withdrawOutput i).engines, ?_⟩
  unfold State.beginRejoin
  dsimp only
  rw [State.withdrawOutput_eq, ← bit_and]
  rfl

/-- Entry to DARK from a source slot, in full (R85, R86). -/
theorem State.goDark_eq {s : State} {i : SlotNo} (source : s.out.source = some i) (cause : OutCause) :
    ∃ list engines, s.goDark cause = { s.modSlot i fun sl => sl.stored s.out with
      probeList := list, engines := engines, out := s.out.inDark s.now, sampler := s.sampler.stop
      link := (s.notice .output [0, 0xFF, 8, 1, s.out.classOut.code, cause.code]).link } := by
  refine ⟨((s.modSlot i fun sl => sl.stored s.out).withdrawOutput i).probeList,
    ((s.modSlot i fun sl => sl.stored s.out).withdrawOutput i).engines, ?_⟩
  rw [State.goDark_of_some source, State.outNotice_eq, State.outNotice, State.notice_link_congr (t := s)]
  · rw [State.withdrawOutput_eq]
    rfl
  · rw [State.withdrawOutput_eq]
    rfl

/-- Records read where one slot's record has changed. -/
theorem State.slot_of_modSlot {s t : State} {i : SlotNo} {f : Slot → Slot} (h : t.slots = (s.modSlot i f).slots) :
    t.slot i = f (s.slot i) ∧ ∀ j, j ≠ i → t.slot j = s.slot j :=
  ⟨(State.slot_of_slots h i).trans (State.modSlot_slot_self ..),
    fun j other => (State.slot_of_slots h j).trans (State.modSlot_slot_of_ne _ other.symm _)⟩

/-- What entry to DARK from a source slot leaves of every record (R85, R86). -/
theorem State.goDark_spec {s t : State} {i : SlotNo} (source : s.out.source = some i) {cause : OutCause}
    (dark : s.goDark cause = t) :
    t.slot i = (s.slot i).stored s.out ∧ (∀ j, j ≠ i → t.slot j = s.slot j) ∧ t.queues = s.queues ∧
      t.coin = s.coin ∧ t.chg = s.chg ∧ t.supply = s.supply ∧ t.out = s.out.inDark s.now ∧
      t.sampler = s.sampler.stop ∧ t.todo = s.todo ∧ t.link = (s.notice .output [0, 0xFF, 8, 1,
        s.out.classOut.code, cause.code]).link := by
  obtain ⟨list, engines, e⟩ := State.goDark_eq source cause
  rw [dark] at e
  have slots : t.slots = (s.modSlot i fun sl => sl.stored s.out).slots := by rw [e]
  obtain ⟨mine, others⟩ := State.slot_of_modSlot slots
  exact ⟨mine, others, (congrArg State.queues e).trans rfl, (congrArg State.coin e).trans rfl,
    (congrArg State.chg e).trans rfl, (congrArg State.supply e).trans rfl,
    (congrArg State.out e).trans rfl, (congrArg State.sampler e).trans rfl, (congrArg State.todo e).trans rfl,
      (congrArg State.link e).trans rfl⟩

theorem State.faultSlot_link {s : State} {i : SlotNo} (sound : (s.slot i).state ≠ .fault) (r : Result) :
    ∃ body, (s.faultSlot i r).link = (s.notice (.slot i) body).link := by
  unfold State.faultSlot
  rw [State.setState_of_ne (by simpa using sound), State.slotNotice]
  exact ⟨_, State.notice_link_congr (by rfl) _ _⟩

/-- A profile and map with staged items stored, where nothing staged leaves the stored ones. -/
theorem Setup.stored_eq (su : Setup) (o : Output) :
    su.stored o =
      { profile := { su.profile with audioLevel := o.stagedLevel.getD su.profile.audioLevel }
        map := o.stagedMap.getD su.map } := by
  unfold Setup.stored
  cases o.stagedLevel <;> cases o.stagedMap <;> rfl

theorem State.rejoinDecision_of_bad {s : State} {p : ProbeRecord} (bad : p.verdict ≠ .good) (i : SlotNo) (store : Bool) :
    s.rejoinDecision i p store = s := by
  unfold State.rejoinDecision
  split
  next good _ => exact absurd good bad
  next => rfl

section
variable {s : State} {i : SlotNo} {p : ProbeRecord} {d : Derived}

theorem State.rejoinDecision_good (good : p.verdict = .good) (figures : p.derived = some d) :
    s.rejoinDecision i p false =
      if d.cls = s.out.classOut ∧ s.settings.accept d = true then s.beginRejoin i p d
      else ((s.faultSlot i .timingChanged).goDark .timingChanged).push [.shed i] := by
  unfold State.rejoinDecision
  rw [good, figures]
  rfl

/-- An OUTPUT record is stored as last probe before it is decided on (R82). -/
theorem State.rejoinDecision_store (good : p.verdict = .good) (figures : p.derived = some d) :
    s.rejoinDecision i p true =
      (s.modSlot i fun sl => { sl with lastProbe := some p }).rejoinDecision i p false := by
  rw [State.rejoinDecision_good good figures]
  unfold State.rejoinDecision
  rw [good, figures]
  rfl

/-- A record that does not suit the monitor faults the slot and darkens the output (R82). -/
theorem State.timingChanged_eq (source : s.out.source = some i) (sound : (s.slot i).state ≠ .fault) :
    ∃ list engines body, ((s.faultSlot i .timingChanged).goDark .timingChanged).push [.shed i] = { s with
      slots := ((s.modSlot i fun sl => { sl with state := .fault, lastFault := some .timingChanged }).modSlot i fun sl =>
        sl.stored s.out).slots
      probeList := list, engines := engines, out := s.out.inDark s.now, sampler := s.sampler.stop
      link := ((s.notice (.slot i) body).notice .output [0, 0xFF, 8, 1, s.out.classOut.code, 6]).link
      todo := .shed i :: s.todo } := by
  obtain ⟨body, link⟩ := State.faultSlot_link sound .timingChanged
  have fault := s.faultSlot_eq i .timingChanged
  rw [link] at fault
  obtain ⟨list, engines, dark⟩ := State.goDark_eq (s := s.faultSlot i .timingChanged) (i := i) (by simpa using source)
    .timingChanged
  refine ⟨list, engines, body, ?_⟩
  rw [dark, State.notice_link_congr link, fault]
  rfl

end

/-- What a record that does not suit the monitor leaves of every record (R82). -/
theorem State.timingChanged_spec {s t : State} {i : SlotNo} (source : s.out.source = some i)
    (sound : (s.slot i).state ≠ .fault)
    (dark : ((s.faultSlot i .timingChanged).goDark .timingChanged).push [.shed i] = t) :
    t.slot i = Slot.stored { s.slot i with state := .fault, lastFault := some .timingChanged } s.out ∧
      (∀ j, j ≠ i → t.slot j = s.slot j) ∧ t.queues = s.queues ∧ t.coin = s.coin ∧ t.chg = s.chg ∧
      t.supply = s.supply ∧ t.out = s.out.inDark s.now ∧ t.sampler = s.sampler.stop ∧ t.todo = .shed i :: s.todo ∧
      ∃ body, t.link = ((s.notice (.slot i) body).notice .output [0, 0xFF, 8, 1, s.out.classOut.code, 6]).link := by
  obtain ⟨list, engines, body, e⟩ := State.timingChanged_eq source sound
  rw [dark] at e
  have slots : t.slots = ((s.modSlot i fun sl => { sl with state := .fault, lastFault := some .timingChanged }).modSlot i
      fun sl => sl.stored s.out).slots := by rw [e]
  obtain ⟨mine, others⟩ := State.slot_of_modSlot slots
  exact ⟨mine.trans (by rw [State.modSlot_slot_self]), fun j other => (others j other).trans
    (State.modSlot_slot_of_ne _ other.symm _), (congrArg State.queues e).trans rfl,
      (congrArg State.coin e).trans rfl, (congrArg State.chg e).trans rfl,
    (congrArg State.supply e).trans rfl, (congrArg State.out e).trans rfl, (congrArg State.sampler e).trans rfl,
      (congrArg State.todo e).trans rfl, body,
    (congrArg State.link e).trans rfl⟩

theorem State.rejoinDecision_suits {s : State} {i : SlotNo} {p : ProbeRecord} {d : Derived} (good : p.verdict = .good)
    (figures : p.derived = some d) (suits : d.cls = s.out.classOut ∧ s.settings.accept d = true) :
    s.rejoinDecision i p false = s.beginRejoin i p d := (State.rejoinDecision_good good figures).trans (if_pos suits)

theorem State.rejoinDecision_unfit {s : State} {i : SlotNo} {p : ProbeRecord} {d : Derived} (good : p.verdict = .good)
    (figures : p.derived = some d) (unfit : ¬ (d.cls = s.out.classOut ∧ s.settings.accept d = true)) :
    s.rejoinDecision i p false = ((s.faultSlot i .timingChanged).goDark .timingChanged).push [.shed i] :=
  (State.rejoinDecision_good good figures).trans (if_neg unfit)

/-- What the monitor must accept of a record, spelt out (R73, R82). -/
theorem OutSettings.accept_iff (o : OutSettings) (d : Derived) :
    o.accept d = true ↔ o.accepts d.cls = true ∧ o.windowLow ≤ d.frameRate ∧ d.frameRate ≤ o.windowHigh := by
  simp [OutSettings.accept]

theorem State.outputProbeDone_decides {s : State} {i : SlotNo} {p : ProbeRecord} (held : s.heldSlot = some i)
    (idle : s.out.hold.rejoin = none) (measurable : (s.slot i).state = .active ∨ (s.slot i).state = .ready) :
    s.outputProbeDone i p = s.rejoinDecision i p true :=
  if_pos ⟨held, idle, (s.rejoinable_iff i).mpr measurable⟩

theorem State.restartOutcome_decides {s : State} {i : SlotNo} {p : ProbeRecord} (held : s.heldSlot = some i)
    (probe : (s.slot i).lastProbe = some p) :
    s.restartOutcome i .ok = (s.modHold fun h => { h with awaitReady := false }).rejoinDecision i p false := by
  unfold State.restartOutcome
  rw [if_pos held, probe]

theorem State.restartOutcome_failed {s : State} {i : SlotNo} {r : Result} (held : s.heldSlot = some i) (failed : r ≠ .ok) :
    s.restartOutcome i r = s.goDark .restartFailed := by
  unfold State.restartOutcome
  rw [if_pos held]
  split
  next => exact absurd rfl failed
  next => rfl

/-- Settles O40. -/
theorem probeEndsAndIsApplied : Obligations.ProbeEndsAndIsApplied := by
  refine ⟨fun dt k s h => ⟨fun free => ⟨?_, ?_⟩, fun m at_k list => ⟨fun released => ?_, fun kept => ?_, fun idle => ?_,
    fun n start line watched => ⟨fun released => ?_, fun kept => ?_⟩⟩⟩, fun s i p => ?_, fun s i p r apart => ?_,
      fun s i p su holding source set => ⟨fun discards => ?_,
        fun d idle measurable good figures => ⟨fun suits => ?_, fun unfit => ?_⟩,
        fun d ready probe good figures => ⟨fun suits => ?_, fun unfit => ?_⟩, fun r failed => ?_⟩⟩
  · unfold exec execProbeFrameWatchEnd
    refine live_of_bare h ?_ h.1
    have free' : (s.advance dt).engine k = none := free
    rw [State.frameWatchEnds, free']
  · unfold exec execLinePeriodOverflow
    refine live_of_bare h ?_ h.1
    have free' : (s.advance dt).engine k = none := free
    rw [State.lineOverflows, free']
  · rw [exec_probeFrameWatchEnd h at_k]
    rw [State.endProbe_of_released (s := (s.advance dt).reach _) at_k list released]
    exact congrArg Host.Outcome.next (State.finish_of_no_task _ h.1)
  · rw [exec_probeFrameWatchEnd h at_k]
    rw [State.endProbe_of_kept (s := (s.advance dt).reach _) at_k list kept]
    rfl
  · unfold exec execLinePeriodOverflow
    refine live_of_bare h ?_ h.1
    have at_k' : (s.advance dt).engine k = some m := at_k
    rw [State.lineOverflows, at_k']
    dsimp only
    split
    next n start line => exact absurd line (idle n start)
    next => rfl
  · rw [exec_linePeriodOverflow h at_k line watched]
    rw [State.endProbe_of_released (s := (s.advance dt).reach _) at_k list released]
    exact congrArg Host.Outcome.next (State.finish_of_no_task _ h.1)
  · rw [exec_linePeriodOverflow h at_k line watched]
    rw [State.endProbe_of_kept (s := (s.advance dt).reach _) at_k list kept]
    rfl
  · obtain ⟨f, l, e, probing, active⟩ := s.workProbeDone_eq i p
    have mine : (s.workProbeDone i p).slot i = f (s.slot i) := by rw [e]; exact State.modSlot_slot_self ..
    dsimp only
    rw [mine]
    refine ⟨fun st plain good => ?_, fun st plain bad => ?_, fun st expired => ?_, active, fun j other => ?_,
      ?_, ?_, ?_, ?_, ?_⟩
    · rw [probing st, Slot.probed, if_neg (by simp [plain]), if_pos good]
    · rw [probing st, Slot.probed, if_neg (by simp [plain]), if_neg bad]
      cases p.verdict <;> rfl
    · rw [probing st, Slot.probed, if_pos expired]
    · rw [e]
      exact State.modSlot_slot_of_ne _ other.symm _
    all_goals rw [e]
    · rfl
    · rfl
    · rfl
    · rfl
    · cases p.verdict <;> rfl
  · have unheld : s.heldSlot ≠ some i := fun held => by
      obtain ⟨holding, source⟩ := (s.heldSlot_iff i).mp held
      exact apart.elim (absurd holding) (absurd source)
    exact ⟨if_neg fun both => unheld both.1, if_neg unheld⟩
  · rcases discards with rejoining | unmeasurable | bad
    · exact if_neg fun all => rejoining all.2.1
    · exact if_neg fun all => unmeasurable ((s.rejoinable_iff i).mp all.2.2)
    · unfold State.outputProbeDone
      rw [State.rejoinDecision_of_bad bad, ite_self]
  · have held := (s.heldSlot_iff i).mpr ⟨holding, source⟩
    obtain ⟨list, engines, rejoin⟩ := (s.modSlot i fun sl => { sl with lastProbe := some p }).beginRejoin_eq i p d
    rw [State.outputProbeDone_decides held idle measurable, State.rejoinDecision_store good figures,
      State.rejoinDecision_suits (s := s.modSlot i fun sl => { sl with lastProbe := some p })
      good figures ⟨suits.1, (s.settings.accept_iff d).mpr suits.2⟩]
    generalize (s.modSlot i fun sl => { sl with lastProbe := some p }).beginRejoin i p d = t at rejoin ⊢
    have slots : t.slots = (s.modSlot i fun sl => { sl with lastProbe := some p }).slots := by rw [rejoin]
    obtain ⟨mine, others⟩ := State.slot_of_modSlot slots
    exact ⟨⟨⟨others, (congrArg State.queues rejoin).trans rfl, (congrArg State.coin rejoin).trans rfl,
      (congrArg State.chg rejoin).trans rfl,
      (congrArg State.supply rejoin).trans rfl⟩, (congrArg State.link rejoin).trans rfl,
        (congrArg State.todo rejoin).trans rfl,
      (congrArg State.out rejoin).trans rfl⟩, mine⟩
  · have held := (s.heldSlot_iff i).mpr ⟨holding, source⟩
    have sound : ((s.modSlot i fun sl => { sl with lastProbe := some p }).slot i).state ≠ .fault := by
      rcases measurable with active | ready
      · simp [active]
      · simp [ready]
    rw [State.outputProbeDone_decides held idle measurable, State.rejoinDecision_store good figures,
      State.rejoinDecision_unfit
        (s := s.modSlot i fun sl => { sl with lastProbe := some p }) good figures
        fun both => unfit ⟨both.1, (s.settings.accept_iff d).mp both.2⟩]
    obtain ⟨mine, others, queues, coin, chg, supply, out, sampler, todo, body, link⟩ := State.timingChanged_spec
      (s := s.modSlot i fun sl => { sl with lastProbe := some p }) source sound rfl
    refine ⟨⟨⟨⟨fun j other => (others j other).trans (State.modSlot_slot_of_ne _ other.symm _),
      queues, coin, chg, supply⟩, out, sampler⟩, todo, body,
      link.trans (State.notice_link_congr (State.notice_link_congr (by rfl) _ _) _ _)⟩, mine.trans ?_⟩
    rw [State.modSlot_slot_self, Slot.stored]
    simp [set, Setup.stored_eq]
  · have held := (s.heldSlot_iff i).mpr ⟨holding, source⟩
    obtain ⟨list, engines, rejoin⟩ := (s.modHold fun h => { h with awaitReady := false }).beginRejoin_eq i p d
    rw [State.restartOutcome_decides held probe,
      State.rejoinDecision_suits (s := s.modHold fun h => { h with awaitReady := false })
      good figures ⟨suits.1, (s.settings.accept_iff d).mpr suits.2⟩, rejoin]
    exact ⟨⟨⟨fun j other => rfl, rfl, rfl, rfl, rfl⟩, rfl, rfl, rfl⟩, rfl⟩
  · have held := (s.heldSlot_iff i).mpr ⟨holding, source⟩
    rw [State.restartOutcome_decides held probe, State.rejoinDecision_unfit
        (s := s.modHold fun h => { h with awaitReady := false }) good figures
        fun both => unfit ⟨both.1, (s.settings.accept_iff d).mp both.2⟩]
    obtain ⟨mine, others, queues, coin, chg, supply, out, sampler, todo, body, link⟩ := State.timingChanged_spec
      (s := s.modHold fun h => { h with awaitReady := false }) (i := i) source (by simp [State.modHold, ready]) rfl
    refine ⟨⟨⟨⟨others, queues, coin, chg, supply⟩, out, sampler⟩, todo, body,
      link.trans (State.notice_link_congr (State.notice_link_congr (by rfl) _ _) _ _)⟩, mine.trans ?_⟩
    simp [State.modHold, Slot.stored, set, Setup.stored_eq, probe]
  · have held := (s.heldSlot_iff i).mpr ⟨holding, source⟩
    obtain ⟨mine, others, queues, coin, chg, supply, out, sampler, todo, link⟩ := State.goDark_spec source
      (cause := .restartFailed) rfl
    rw [State.restartOutcome_failed held failed]
    refine ⟨⟨⟨others, queues, coin, chg, supply⟩, out, sampler⟩, todo, mine.trans ?_, link⟩
    simp [Slot.stored, set, Setup.stored_eq]

end Sys2Proof.Machine

/-! SELECT's checks, CANCEL and the timers of a changeover (R83, R89, R94 to R114). -/

namespace Sys2Proof.Machine

/-! ## SELECT's checks (R89) -/

theorem selectionOf_of_large {b : Byte} (h : 8 < b.toNat) : selectionOf b = none := by
  unfold selectionOf
  rw [if_neg fun e => by simp [e] at h, slotOf_of_large (by omega)]
  rfl

theorem selectionOf_of_named {b : Byte} {sel : Option SlotNo}
    (h : b = 8 ∧ sel = none ∨ ∃ i : SlotNo, i.val = b.toNat ∧ sel = some i) : selectionOf b = some sel := by
  unfold selectionOf
  rcases h with ⟨rfl, rfl⟩ | ⟨i, names, rfl⟩
  · rfl
  · have below := i.isLt
    rw [if_neg fun e => by simp [e] at names; omega, slotOf_of_val names]
    rfl

theorem State.selectsUnconfigured_iff (s : State) (sel : Option SlotNo) :
    s.selectsUnconfigured sel = true ↔ ∃ i, sel = some i ∧ (s.slot i).state = .unconfigured := by
  cases sel <;> simp [State.selectsUnconfigured]

theorem State.selectAlready_iff (s : State) (sel : Option SlotNo) :
    s.selectAlready sel = true ↔
      s.out.mode = .dark ∧ sel = none ∨
      (s.out.mode = .showing ∨ s.out.mode = .holding) ∧ sel ≠ none ∧ s.out.source = sel ∨
      s.out.mode = .changing ∧ ∃ c, s.chg = some c ∧ (c.toSlot = sel ∨ ∃ r, c.reselect = some r ∧ r.slot = sel) := by
  unfold State.selectAlready
  cases s.out.mode with
  | dark => simp
  | showing => simp [Option.isSome_iff_ne_none]
  | holding => simp [Option.isSome_iff_ne_none]
  | changing => cases chg : s.chg <;> simp

theorem State.takeSelect_of_selection {s : State} {tag slot : Byte} {sel : Option SlotNo}
    (names : selectionOf slot = some sel) :
    s.takeSelect tag slot =
      if s.selectsUnconfigured sel then s.refuse 0x0C tag .notConfigured
      else if tag = 0 then s.refuse 0x0C tag .badValue
      else if s.selectAlready sel then s.reply 0x0C tag alreadyBody
      else (s.reply 0x0C tag (acceptedBody [])).acceptSelect { slot := sel, tag := tag } := by
  unfold State.takeSelect
  rw [names]

/-- A SELECT that passes its checks is accepted. -/
theorem State.takeSelect_of_accepted {s : State} {tag slot : Byte} {sel : Option SlotNo}
    (names : slot = 8 ∧ sel = none ∨ ∃ i : SlotNo, i.val = slot.toNat ∧ sel = some i) (tagged : tag ≠ 0)
    (configured : ∀ j, sel = some j → (s.slot j).state ≠ .unconfigured) (other : ¬ s.selectAlready sel = true) :
    s.takeSelect tag slot = (s.reply 0x0C tag [1]).acceptSelect { slot := sel, tag := tag } := by
  rw [State.takeSelect_of_selection (selectionOf_of_named names),
    if_neg fun un => by
      obtain ⟨j, e, st⟩ := (s.selectsUnconfigured_iff sel).mp un
      exact configured j e st,
    if_neg tagged, if_neg other]
  rfl

/-- Settles O47. -/
theorem selectChecksInOrder : Obligations.SelectChecksInOrder := by
  refine fun dt tag slot s h => ⟨fun large => ?_, fun sel names => ?_⟩
  · have refused : (s.received dt).takeSelect tag slot = (s.received dt).refuse 0x0C tag .badSlot := by
      rw [State.takeSelect, selectionOf_of_large large]
    exact request_replied h refused
  · have read := State.takeSelect_of_selection (s := s.received dt) (tag := tag) (selectionOf_of_named names)
    have named := (s.received dt).selectsUnconfigured_iff sel
    refine ⟨fun un => request_replied h (read.trans (if_pos (named.mpr un))), fun set zero => request_replied h ?_,
      fun set tagged already => request_replied h ?_⟩
    · exact read.trans ((if_neg fun un => set (named.mp un)).trans (if_pos zero))
    · exact read.trans ((if_neg fun un => set (named.mp un)).trans
        ((if_neg tagged).trans (if_pos (((s.received dt).selectAlready_iff sel).mpr already))))

/-! ## The end of a changeover in DARK (R95, R109) -/

/-- The record removed and the output DARK, with its OUTPUT notice, where no slot was shown. -/
def State.endsDark (s : State) : State :=
  State.notice { s with chg := none, out := s.out.inDark s.now, sampler := s.sampler.stop } .output
    [0, 0xFF, 8, 1, s.out.classOut.code, 0]

theorem State.goDark_endsDark {s : State} (source : s.out.source = none) :
    State.goDark { s with chg := none } .changeover = s.endsDark := State.goDark_of_none (by exact source) _

@[simp] theorem State.endsDark_fields (s : State) :
    s.endsDark.slots = s.slots ∧ s.endsDark.queues = s.queues ∧ s.endsDark.todo = s.todo := by
  simp [State.endsDark]

theorem State.endsDark_queue (s : State) (i : SlotNo) : s.endsDark.queue i = s.queue i :=
  State.queue_of_queues s.endsDark_fields.2.1 i

theorem State.endAtNone_of_some {s : State} {c : Change} (chg : s.chg = some c) (source : s.out.source = none) :
    s.endAtNone = s.endsDark.complete c.tag (selectCompletion none .ok .ok) := by
  unfold State.endAtNone
  rw [chg]
  dsimp only
  rw [State.goDark_endsDark source]
  rfl

theorem State.failChange_eq {s t : State} {c : Change} (chg : s.chg = some c) (source : s.out.source = none)
    (reselect : c.reselect = none) {reason step : Result} (removed : s.endsDark.removeTargetEntry c.toSlot = t) :
    s.failChange reason step =
      (t.complete c.tag (selectCompletion c.toSlot reason step)).push (releasedTasks c.toSlot) := by
  unfold State.failChange
  rw [chg]
  dsimp only
  rw [State.goDark_endsDark source, removed, reselect]
  exact congrArg _ (List.append_nil _)

/-! ## The prepare entry removed (R38) -/

theorem State.removePrepare_of_none {s : State} {i : SlotNo} (out : (s.queue i).out = none) : s.removePrepare i = s := by
  rw [State.removePrepare, out]

/-- A prepare entry that runs is marked. -/
theorem State.removePrepare_of_running {s : State} {i : SlotNo} {e : Entry} (out : (s.queue i).out = some e)
    (kind : e.kind = .prepare) (runs : (s.queue i).running = some .output) :
    s.removePrepare i = s.modQueue i fun q => { q with out := some { e with marked := true } } := by
  rw [State.removePrepare, out]
  exact (if_pos kind).trans (State.modQueue_congr (if_pos runs))

/-- A prepare entry that waits goes at once. -/
theorem State.removePrepare_of_waiting {s : State} {i : SlotNo} {e : Entry} (out : (s.queue i).out = some e)
    (kind : e.kind = .prepare) (waits : (s.queue i).running ≠ some .output) :
    s.removePrepare i = s.modQueue i fun q => { q with out := none } := by
  rw [State.removePrepare, out]
  exact (if_pos kind).trans (State.modQueue_congr (if_neg waits))

theorem State.complete_modQueue (s : State) (i : SlotNo) (f : Queue → Queue) (tag : Byte) (body : List Byte) :
    (s.modQueue i f).complete tag body = (s.complete tag body).modQueue i f := by
  unfold State.complete
  dsimp only
  rw [apply_ite (fun t : State => t.modQueue i f)]
  rfl

theorem State.notice_modQueue (s : State) (i : SlotNo) (f : Queue → Queue) (k : NoticeKey) (body : List Byte) :
    (s.modQueue i f).notice k body = (s.notice k body).modQueue i f := by
  unfold State.notice
  rw [apply_ite (fun t : State => t.modQueue i f)]
  rfl

theorem State.endsDark_modQueue (s : State) (i : SlotNo) (f : Queue → Queue) :
    (s.modQueue i f).endsDark = s.endsDark.modQueue i f := State.notice_modQueue { s with
      chg := none, out := s.out.inDark s.now, sampler := s.sampler.stop } i f _ _

theorem State.complete_withChange (s : State) (x : Option Change) (tag : Byte) (body : List Byte) :
    State.complete { s with chg := x } tag body = { s.complete tag body with chg := x } := by
  unfold State.complete
  dsimp only
  rw [apply_ite (fun t : State => ({ t with chg := x } : State))]
  rfl

theorem State.modChange_of_some {s : State} {c : Change} (chg : s.chg = some c) (f : Change → Change) :
    s.modChange f = { s with chg := some (f c) } := by
  rw [State.modChange, chg]
  rfl

/-! ## The slot that is no longer the target (R27, R19) -/

/-- A slot whose work goes on, or that has none, and that no shed is due for, is left as it is. -/
structure State.Settled (s : State) (i : SlotNo) : Prop where
  unshed : (s.slot i).shedPending = false ∨ (s.queue i).out ≠ none
  runs : (s.queue i).running ≠ none ∨ (s.queue i).ctrl = [] ∧ (s.queue i).out = none

theorem State.shedTest_of_settled {s : State} {i : SlotNo} (h : s.Settled i) : s.shedTest i = s := by
  refine if_neg fun ready => ?_
  obtain ⟨pending, -, out, -⟩ := (s.shedReady_iff i).mp ready
  rcases h.unshed with unshed | work
  · simp [pending] at unshed
  · exact work out

theorem State.turn_of_settled {s : State} {i : SlotNo} (h : s.Settled i) : s.turn i = s := by
  by_cases idle : (s.queue i).running = none
  · obtain ⟨ctrl, out⟩ := h.runs.resolve_left (not_not_intro idle)
    rw [State.turn_of_empty idle out ctrl, State.shedTest_of_settled h]
  · exact State.turn_of_running idle

theorem run_released_some {n : Nat} {s : State} {i : SlotNo} (h : s.Settled i) (xs : List Task) :
    run (n + 2) (s.push (.turn i :: .shed i :: xs)) = run n (s.push xs) :=
  (run_task (x := .turn i) (State.turn_of_settled (s := s.push (.shed i :: xs)) ⟨h.unshed, h.runs⟩)).trans
    (run_task (x := .shed i) (State.shedTest_of_settled (s := s.push xs) ⟨h.unshed, h.runs⟩))

theorem run_released {n : Nat} {s : State} {x : Option SlotNo} (todo : s.todo = []) (h : ∀ i, x = some i → s.Settled i) :
    run (n + 2) (s.push (releasedTasks x)) = run n s := by
  cases x with
  | none => exact (run_of_no_task _ _ todo).trans (run_of_no_task _ _ todo).symm
  | some i => exact run_released_some (h i rfl) []

/-! ## CANCEL (R114) -/

@[simp] theorem State.removed_fields (s : State) (x : Option SlotNo) :
    (s.endsDark.removeTargetEntry x).slots = s.slots ∧ (s.endsDark.removeTargetEntry x).todo = s.todo := by
  rw [State.removeTargetEntry_eq]
  simp

/-- A changeover that fails with its target settled leaves nothing more to do. -/
theorem run_failChange {n : Nat} {s t : State} {c : Change} (chg : s.chg = some c) (source : s.out.source = none)
    (reselect : c.reselect = none) (removed : s.endsDark.removeTargetEntry c.toSlot = t) (todo : s.todo = [])
    (unshed : ∀ i, c.toSlot = some i → (s.slot i).shedPending = false ∨ (t.queue i).out ≠ none)
    (runs : ∀ i, c.toSlot = some i → (t.queue i).running ≠ none ∨ (t.queue i).ctrl = [] ∧ (t.queue i).out = none)
    (reason step : Result) :
    run (n + 2) (s.failChange reason step) = run n (t.complete c.tag (selectCompletion c.toSlot reason step)) ∧
      (t.complete c.tag (selectCompletion c.toSlot reason step)).todo = [] := by
  rw [State.failChange_eq chg source reselect removed]
  subst removed
  have done : ((s.endsDark.removeTargetEntry c.toSlot).complete c.tag
      (selectCompletion c.toSlot reason step)).todo = [] := by simp [todo]
  refine ⟨run_released done fun i target => ⟨?_, ?_⟩, done⟩
  · rw [State.slot_of_slots (t := State.complete ..) (s := s) (by simp),
      State.queue_of_queues (t := State.complete ..) (s := s.endsDark.removeTargetEntry c.toSlot) (by simp)]
    exact unshed i target
  · rw [State.queue_of_queues (t := State.complete ..) (s := s.endsDark.removeTargetEntry c.toSlot) (by simp)]
    exact runs i target

/-- A request whose effect leaves no task. -/
theorem request_of_taken {dt : Nat} {tag : Byte} {op : ReqOp} {s t : State} (h : s.TakesRequests)
    (taken : (s.received dt).takeRequest { tag := tag, op := op } = t) (todo : t.todo = []) :
    request dt tag op s = .next t.beginMessage := by
  subst taken
  exact request_of_bare h todo

theorem State.takeCancel_of_cut {s : State} {c : Change} (chg : s.chg = some c)
    (cut : c.stage = .align ∨ c.stage = .settle) (tag : Byte) :
    s.takeCancel tag = (s.reply 0x0D tag [4]).cancelReselect c := by
  unfold State.takeCancel
  rw [chg]
  dsimp only
  rcases cut with stage | stage <;> rw [stage] <;> rfl

theorem State.takeCancel_of_open {s : State} {c : Change} (chg : s.chg = some c) (align : c.stage ≠ .align)
    (settle : c.stage ≠ .settle) (tag : Byte) :
    s.takeCancel tag = (s.reply 0x0D tag [0]).failChange .cancelled .ok := by
  unfold State.takeCancel
  rw [chg]
  dsimp only
  cases stage : c.stage
  case align => exact absurd stage align
  case settle => exact absurd stage settle
  all_goals rfl

/-- A CANCEL before the cut, with what it leaves of the target's queue (R114, R38). -/
theorem exec_cancel {dt : Nat} {tag : Byte} {s t : State} {c : Change} (h : s.TakesRequests) (chg : s.chg = some c)
    (align : c.stage ≠ .align) (settle : c.stage ≠ .settle) (reselect : c.reselect = none) (source : s.out.source = none)
    (unshed : ∀ i, c.toSlot = some i → (s.slot i).shedPending = false)
    (removed : ((s.received dt).reply 0x0D tag [0]).endsDark.removeTargetEntry c.toSlot = t)
    (runs : ∀ i, c.toSlot = some i → (t.queue i).running ≠ none ∨ (t.queue i).ctrl = [] ∧ (t.queue i).out = none) :
    exec (.cancel dt tag) s = .next (t.complete c.tag (selectCompletion c.toSlot .cancelled .ok)).beginMessage := by
  obtain ⟨ends, done⟩ := run_failChange (n := 4094) (s := (s.received dt).reply 0x0D tag [0]) chg source reselect removed
    h.todo (fun i target => .inl (unshed i target)) runs .cancelled .ok
  exact request_of_run h (State.takeCancel_of_open (s := s.received dt) chg align settle tag) ends done

/-- Settles O50. -/
theorem cancelByStage : Obligations.CancelByStage := by
  refine fun dt tag s h => ⟨fun idle => request_replied h ?_, fun c chg => ⟨fun cut => ⟨fun plain => ?_, fun r pending => ?_⟩,
    fun align settle reselect source unshed => ⟨fun empty => ?_,
      fun i e target out kind => ⟨fun waits => ?_, fun runs => ?_⟩⟩⟩⟩
  · have refused : (s.received dt).takeCancel tag = (s.received dt).refuse 0x0D tag .notAllowed := by
      have idle' : (s.received dt).chg = none := idle
      rw [State.takeCancel, idle']
    exact refused
  · have taken := State.takeCancel_of_cut (s := s.received dt) chg cut tag
    rw [State.cancelReselect, plain] at taken
    exact request_replied h taken
  · have taken := State.takeCancel_of_cut (s := s.received dt) chg cut tag
    rw [State.cancelReselect, pending] at taken
    dsimp only at taken
    rw [State.modChange_of_some (s := (s.received dt).reply 0x0D tag [4]) chg, State.completeSelect,
      State.complete_withChange] at taken
    exact request_of_taken h taken (by simpa using h.todo)
  · have queue : ∀ i, ((s.received dt).reply 0x0D tag [0]).endsDark.queue i = s.queue i := State.endsDark_queue _
    have removed : ((s.received dt).reply 0x0D tag [0]).endsDark.removeTargetEntry c.toSlot =
        ((s.received dt).reply 0x0D tag [0]).endsDark := by
      cases target : c.toSlot with
      | none => rfl
      | some i => exact State.removePrepare_of_none (by rw [queue, empty i target])
    have idle : ∀ i, c.toSlot = some i → (((s.received dt).reply 0x0D tag [0]).endsDark.queue i).ctrl = [] ∧
        (((s.received dt).reply 0x0D tag [0]).endsDark.queue i).out = none := fun i target => by
      rw [queue, empty i target]
      exact ⟨rfl, rfl⟩
    exact exec_cancel h chg align settle reselect source unshed removed fun i target => .inr (idle i target)
  · have queue : ((s.received dt).reply 0x0D tag [0]).endsDark.queue i = s.queue i := State.endsDark_queue _ i
    have removed : ((s.received dt).reply 0x0D tag [0]).endsDark.removeTargetEntry c.toSlot =
        ((s.received dt).reply 0x0D tag [0]).endsDark.modQueue i fun q => { q with out := none } := by
      rw [target]
      exact State.removePrepare_of_waiting (by rw [queue, out]) kind (by rw [queue, waits]; decide)
    refine (exec_cancel h chg align settle reselect source unshed removed fun k target' => .inl ?_).trans
      (congrArg (fun t : State => Host.Outcome.next t.beginMessage) (State.complete_modQueue ..))
    cases target.symm.trans target'
    rw [State.modQueue_queue_self, queue, waits]
    decide
  · have queue : ((s.received dt).reply 0x0D tag [0]).endsDark.queue i = s.queue i := State.endsDark_queue _ i
    have removed : ((s.received dt).reply 0x0D tag [0]).endsDark.removeTargetEntry c.toSlot =
        ((s.received dt).reply 0x0D tag [0]).endsDark.modQueue i fun q => { q with out := some { e with marked := true } } := by
      rw [target]
      exact State.removePrepare_of_running (by rw [queue, out]) kind (by rw [queue, runs])
    refine (exec_cancel h chg align settle reselect source unshed removed fun k target' => .inl ?_).trans
      (congrArg (fun t : State => Host.Outcome.next t.beginMessage) (State.complete_modQueue ..))
    cases target.symm.trans target'
    rw [State.modQueue_queue_self, queue, runs]
    decide

/-! ## The timers of a changeover (R94, R98, R102, R105) -/

theorem State.stageTimer_of_none {s : State} {st : Stage} (h : ∀ c, s.chg = some c → c.stage ≠ st ∨ c.cut.timer = none) :
    s.stageTimer st = none := by
  unfold State.stageTimer
  split
  next => rfl
  next c chg =>
    rcases h c chg with other | idle
    · exact if_neg other
    · rw [idle, ite_self]

theorem State.stageTimer_of_some {s : State} {c : Change} (chg : s.chg = some c) :
    s.stageTimer c.stage = c.cut.timer := by
  unfold State.stageTimer
  rw [chg]
  exact if_pos rfl

/-- The end of BRIDGE in a changeover to NONE (R95). -/
theorem State.bridgeEnd_none {s : State} {c : Change} (chg : s.chg = some c) (stage : c.stage = .bridge)
    (sync : s.out.sync = .bridge) (target : c.toSlot = none) (source : s.out.source = none) :
    s.bridgeEnd = s.endsDark.complete c.tag (selectCompletion none .ok .ok) := by
  rw [← State.endAtNone_of_some chg source, State.bridgeEnd, chg]
  refine (if_pos ⟨stage, sync⟩).trans ?_
  rw [State.bridgeEnds, chg]
  dsimp only
  rw [target]

/-- What a changeover leaves whose target is lost in ALIGN or SETTLE (R102, R105). -/
structure State.TargetLost (s t : State) (i : SlotNo) (reason : Result) : Prop where
  now : t.now = s.now
  mine : t.slot i = { s.slot i with state := .fault, lastFault := some reason }
  others : ∀ j, j ≠ i → t.slot j = s.slot j
  out : t.out = s.out.inDark s.now
  chg : t.chg = none
  sampler : t.sampler = s.sampler.stop
  queues : t.queues = s.queues
  supply : t.supply = s.supply
  coin : t.coin = s.coin
  deadline : t.classDeadline = s.classDeadline

theorem State.faultTarget_run {s : State} {c : Change} {i : SlotNo} (chg : s.chg = some c) (target : c.toSlot = some i)
    (reselect : c.reselect = none) (source : s.out.source = none) (unshed : (s.slot i).shedPending = false)
    (empty : s.queue i = { ctrl := [], out := none, running := none, pauseEnd := none }) (todo : s.todo = [])
    (reason : Result) :
    ∃ t : State, run 4096 (s.faultTarget reason) = run 4094 t ∧ t.todo = [] ∧ s.TargetLost t i reason := by
  have aims : s.target = some i := by simp [State.target, chg, target]
  have starts : s.faultTarget reason = (s.leaveSlotSync.faultSlot i reason).failChange reason .ok := by
    rw [State.faultTarget, aims]
  obtain ⟨l, faulted⟩ : ∃ l, s.leaveSlotSync.faultSlot i reason =
      { s.modSlot i fun sl => { sl with state := .fault, lastFault := some reason } with
        out := s.leaveSlotSync.out, link := l } := by
    refine ⟨(s.leaveSlotSync.faultSlot i reason).link, (State.faultSlot_eq ..).trans ?_⟩
    rw [State.leaveSlotSync_eq]
    rfl
  generalize s.leaveSlotSync.faultSlot i reason = w at starts faulted
  have dark : w.out.inDark w.now = s.out.inDark s.now := by
    rw [faulted, State.leaveSlotSync_eq]
    rfl
  have slots : w.slots = (s.modSlot i fun sl => { sl with state := .fault, lastFault := some reason }).slots := by
    rw [faulted]
  obtain ⟨mine, others⟩ := State.slot_of_modSlot slots
  have queues : w.queues = s.queues := by rw [faulted]; rfl
  have queue : w.endsDark.queue i = s.queue i := (w.endsDark_queue i).trans (State.queue_of_queues queues i)
  have removed : w.endsDark.removeTargetEntry c.toSlot = w.endsDark := by
    rw [target]
    exact State.removePrepare_of_none (by rw [queue, empty])
  have idle : (w.endsDark.queue i).ctrl = [] ∧ (w.endsDark.queue i).out = none := by
    rw [queue, empty]
    exact ⟨rfl, rfl⟩
  obtain ⟨ends, done⟩ := run_failChange (n := 4094) (by rw [faulted]; exact chg)
    (by rw [faulted, State.leaveSlotSync_eq]; exact source) reselect removed (by rw [faulted]; exact todo)
    (fun k aimed => .inl (by cases target.symm.trans aimed; rw [mine]; exact unshed))
    (fun k aimed => .inr (by cases target.symm.trans aimed; exact idle)) reason .ok
  refine ⟨_, (congrArg (run 4096) starts).trans ends, done, ?_⟩
  refine ⟨?_, ?_, ?_, ?_, ?_, ?_, ?_, ?_, ?_, ?_⟩
  · simp [State.endsDark, faulted]
  · exact (State.slot_of_slots (by simp) i).trans mine
  · exact fun j other => (State.slot_of_slots (by simp) j).trans (others j other)
  · simp [State.endsDark, dark]
  · simp [State.endsDark]
  · simp [State.endsDark, faulted]
  · simp [State.endsDark, queues]
  · simp [State.endsDark, faulted]
  · simp [State.endsDark, faulted]
  · simp [State.endsDark, faulted]

/-- A rejoin stage that ends without its completion, back to probing (R83). -/
theorem State.stopRejoin_probing (s : State) :
    s.stopRejoin true = { s with out := { s.out with
      sync := .bridge, blanked := s.out.blanked || decide (s.out.sync ≠ .bridge)
      current := if s.out.sync = .bridge then s.out.current else s.out.timing
      frameStart := if s.out.sync = .bridge then s.out.frameStart else s.now
      hold := { s.out.hold with rejoin := none, cut := Cut.none, probing := true } } } := by
  unfold State.stopRejoin State.leaveSlotSync
  by_cases bridge : s.out.sync = .bridge
  · simp [bridge, State.modHold, State.modOut]
  · simp [bridge, State.modHold, State.modOut, State.toBridge]

/-- Settles O51. -/
theorem changeoverTimersEnd : Obligations.ChangeoverTimersEnd := by
  refine fun dt s h => ⟨fun idle => ?_, fun idle => ?_, fun idle still => ?_, fun idle still => ?_,
    fun c tick chg reselect source => ⟨fun stage timer target => ?_, fun i e timer target out kind runs => ?_,
      fun i target timer unshed empty => ⟨fun stage => ?_, fun stage => ?_⟩⟩,
    fun tick chg timer => ⟨fun rejoin => ?_, fun rejoin => ?_⟩⟩
  · unfold exec execBridgeStageTimerEnd
    refine live_of_bare h ?_ h.1
    rw [State.bridgeTimerEnds, State.stageTimer_of_none (s := s.advance dt) idle]
  · unfold exec execPrepareTimeout
    refine live_of_bare h ?_ h.1
    have off : (s.advance dt).chg.bind (·.prepareTimer) = none := Option.bind_eq_none_iff.mpr idle
    rw [State.prepareTimerEnds, off]
  · unfold exec execAlignTimeout
    refine live_of_bare h ?_ h.1
    rw [State.alignTimerEnds, State.stageTimer_of_none (s := s.advance dt) idle, State.rejoinTimer,
      if_neg (by exact still)]
  · unfold exec execSettleFrameTimerEnd
    refine live_of_bare h ?_ h.1
    rw [State.settleTimerEnds, State.stageTimer_of_none (s := s.advance dt) idle, State.rejoinTimer,
      if_neg (by exact still)]
  · have ends := State.bridgeEnd_none (s := ((s.advance dt).reach tick).toBridge) chg stage rfl target source
    have running := State.stageTimer_of_some (s := s.advance dt) chg
    rw [stage, timer] at running
    unfold exec execBridgeStageTimerEnd
    refine (live_push_one (u := ((s.advance dt).reach tick).toBridge) (x := .bridgeEnd) h ?_ ?_).trans
      (congrArg (fun t : State => Host.Outcome.next t.beginMessage) ends)
    · rw [State.bridgeTimerEnds, running]
      rfl
    · have todo : ((s.advance dt).reach tick).toBridge.todo = [] := h.1
      exact (congrArg State.todo ends).trans (by simp [todo])
  · have running : (s.advance dt).chg.bind (·.prepareTimer) = some tick := Option.bind_eq_some_iff.mpr ⟨c, chg, timer⟩
    have queue : ((s.advance dt).reach tick).endsDark.queue i = s.queue i := State.endsDark_queue _ i
    have removed : ((s.advance dt).reach tick).endsDark.removeTargetEntry c.toSlot =
        ((s.advance dt).reach tick).endsDark.modQueue i fun q => { q with out := some { e with marked := true } } := by
      rw [target]
      exact State.removePrepare_of_running (by rw [queue, out]) kind (by rw [queue, runs])
    have marked : (((s.advance dt).reach tick).endsDark.modQueue i fun q =>
        { q with out := some { e with marked := true } }).queue i = { s.queue i with out := some { e with marked := true } } := by
      rw [State.modQueue_queue_self, queue]
    obtain ⟨ends, done⟩ := run_failChange (n := 4094) (s := (s.advance dt).reach tick) chg source reselect removed h.1
      (fun k aimed => .inr (by cases target.symm.trans aimed; rw [marked]; simp))
      (fun k aimed => .inl (by cases target.symm.trans aimed; rw [marked]; simp [runs])) .prepareTimeout .ok
    rw [target, ← State.endsDark_modQueue] at ends done
    unfold exec execPrepareTimeout
    exact live_of_run h (by rw [State.prepareTimerEnds, running]) ends done
  · obtain ⟨t, ends, done, lost⟩ := State.faultTarget_run (s := (s.advance dt).reach tick) chg target reselect source unshed
      empty h.1 .alignTimeout
    have running := State.stageTimer_of_some (s := s.advance dt) chg
    rw [stage, timer] at running
    unfold exec execAlignTimeout
    refine ⟨t, live_of_run h (by rw [State.alignTimerEnds, running]) ends done, lost.now, lost.mine, lost.others, lost.out,
      lost.chg, lost.sampler, lost.queues, lost.supply, lost.coin, lost.deadline⟩
  · obtain ⟨t, ends, done, lost⟩ := State.faultTarget_run (s := (s.advance dt).reach tick) chg target reselect source unshed
      empty h.1 .settleLost
    have running := State.stageTimer_of_some (s := s.advance dt) chg
    rw [stage, timer] at running
    unfold exec execSettleFrameTimerEnd
    refine ⟨t, live_of_run h (by rw [State.settleTimerEnds, running]) ends done, lost.now, lost.mine, lost.others, lost.out,
      lost.chg, lost.sampler, lost.queues, lost.supply, lost.coin, lost.deadline⟩
  · have none : (s.advance dt).stageTimer .align = none := State.stageTimer_of_none fun c some => by
      cases chg.symm.trans some
    have running : (s.advance dt).rejoinTimer .align = some tick := (if_pos (by exact rejoin)).trans timer
    unfold exec execAlignTimeout
    refine live_of_bare h ?_ h.1
    rw [State.alignTimerEnds, none, running]
    exact State.stopRejoin_probing _
  · have none : (s.advance dt).stageTimer .settle = none := State.stageTimer_of_none fun c some => by
      cases chg.symm.trans some
    have running : (s.advance dt).rejoinTimer .settle = some tick := (if_pos (by exact rejoin)).trans timer
    unfold exec execSettleFrameTimerEnd
    refine live_of_bare h ?_ h.1
    rw [State.settleTimerEnds, none, running]
    exact State.stopRejoin_probing _

end Sys2Proof.Machine

/-! Loss, HOLDING and the hold timer's expiry (R78, R79, R85, R160). -/

namespace Sys2Proof.Machine

/-! ## Entry to HOLDING (R79, R157) -/

theorem State.profileNat_of_setup {s : State} {i : SlotNo} {su : Setup} (set : (s.slot i).setup = some su)
    (f : Profile → Nat) : s.profileNat i f = f su.profile := by simp [State.profileNat, State.profile, set]

/-- The hold fields at an entry to HOLDING. -/
def Hold.entered (form : HoldForm) (now time : Nat) : Hold :=
  { timer := some (now + time * 48000), form := some form, rejoin := Option.none, cut := Cut.none
    probing := decide (form = .loss), awaitReady := decide (form = .restart)
    stalledAt := if form = .restart then some now else Option.none }

/-- The output record at an entry to HOLDING. -/
def Output.entersHolding (o : Output) (form : HoldForm) (now time : Nat) : Output :=
  { o with
    mode := .holding, sync := .bridge, blanked := true, gain := 63, target := 63, current := o.timing
    frameStart := now, watch := { o.watch with timer := none }, hold := Hold.entered form now time }

theorem State.enterHolding_eq {s : State} {i : SlotNo} (source : s.out.source = some i) (form : HoldForm) (time : Nat)
    (cause : OutCause) :
    s.enterHolding form time cause =
      State.notice { s with out := s.out.entersHolding form s.now time, sampler := s.sampler.stop } .output
        [3, byteOf i.val, 8, 1, s.out.classOut.code, cause.code] := by
  have body : (s.out.entersHolding form s.now time).noticeBody cause =
      [3, byteOf i.val, 8, 1, s.out.classOut.code, cause.code] := by
    simp only [Output.noticeBody, Output.entersHolding, source]
    rfl
  rw [← body]
  rfl

/-! ## The hold timer's expiry (R85, R160) -/

/-- A slot without work of its own that waits or starts faults at once. -/
theorem State.expireSlot_at_once {s : State} {i : SlotNo}
    (state : (s.slot i).state ∈ [SlotState.active, .ready, .warm, .resting, .off, .fault])
    (idle : (s.queue i).running = none) : s.expireSlot i = s.faultSlot i .syncLost := by
  have plain : (s.slot i).state ≠ .testing ∧ (s.slot i).state ≠ .waiting ∧ (s.slot i).state ≠ .starting := by
    cases st : (s.slot i).state <;> simp [st] at state ⊢
  obtain ⟨untested, unqueued, started⟩ := plain
  unfold State.expireSlot State.underController
  rw [if_neg untested, if_neg (by simp [idle]), if_neg unqueued]
  dsimp only
  rw [if_neg started]

/-- The SLOT notice of a slot that faults, none from FAULT (R6, log 19). -/
theorem State.faultSlot_syncLost_link (s : State) (i : SlotNo) :
    (s.faultSlot i .syncLost).link =
      (if (s.slot i).state = .fault then s
        else s.notice (.slot i) [byteOf i.val, 10, if (s.slot i).power then 1 else 0, 10]).link := by
  by_cases fault : (s.slot i).state = .fault
  · rw [if_pos fault, State.faultSlot, State.setState_of_eq (by simpa using fault)]
    rfl
  · rw [if_neg fault, State.faultSlot, State.setState_of_ne (by simpa using fault), State.slotNotice]
    have body : State.slotNoticeBody (((s.modSlot i fun sl => { sl with lastFault := some .syncLost }).modSlot i fun sl =>
        { sl with state := .fault })) i = [byteOf i.val, 10, if (s.slot i).power then 1 else 0, 10] := by
      unfold State.slotNoticeBody
      rw [State.modSlot_modSlot, State.modSlot_slot_self]
      cases (s.slot i).power <;> rfl
    rw [body]
    exact State.notice_link_congr (by rfl) _ _

/-- The tasks of a slot that is settled, done. -/
theorem run_of_released {n : Nat} {s : State} {i : SlotNo} (todo : s.todo = [.turn i, .shed i]) (h : s.Settled i) :
    run (n + 2) s = { s with todo := [] } := by
  have pushed : s = State.push { s with todo := [] } [.turn i, .shed i] :=
    congrArg (fun ts => ({ s with todo := ts } : State)) todo
  rw [pushed]
  exact (run_released_some (s := { s with todo := [] }) ⟨h.unshed, h.runs⟩ []).trans (run_of_no_task _ _ rfl)

theorem Slot.stored_of_unstaged {o : Output} (level : o.stagedLevel = none) (map : o.stagedMap = none) (sl : Slot) :
    sl.stored o = sl := by
  simp [Slot.stored, Setup.stored, level, map]

/-- What the expiry leaves of a held slot without work (R85, R160). -/
structure State.HoldExpired (s t : State) (i : SlotNo) : Prop where
  mine : t.slot i = { s.slot i with state := .fault, lastFault := some .syncLost }
  others : ∀ j, j ≠ i → t.slot j = s.slot j
  queues : t.queues = s.queues
  coin : t.coin = s.coin
  chg : t.chg = s.chg
  supply : t.supply = s.supply
  out : t.out = s.out.inDark s.now
  link : t.link = ((if (s.slot i).state = .fault then s
    else s.notice (.slot i) [byteOf i.val, 10, if (s.slot i).power then 1 else 0, 10]).notice .output
      [0, 0xFF, 8, 1, s.out.classOut.code, 5]).link

theorem State.holdExpires_idle {s : State} {i : SlotNo}
    (state : (s.slot i).state ∈ [SlotState.active, .ready, .warm, .resting, .off, .fault])
    (empty : s.queue i = { ctrl := [], out := none, running := none, pauseEnd := none })
    (unshed : (s.slot i).shedPending = false) (source : s.out.source = some i) (level : s.out.stagedLevel = none)
    (map : s.out.stagedMap = none) (todo : s.todo = []) :
    ∃ t : State, run 4096 (s.holdExpires i) = run 4094 t ∧ t.todo = [] ∧ s.HoldExpired t i := by
  have starts : s.holdExpires i = ((s.push [.turn i, .shed i]).faultSlot i .syncLost).goDark .syncLost := by
    rw [State.holdExpires, if_neg (by simp [empty, Queue.hasRestart]),
      State.expireSlot_at_once (s := s.push _) state (by exact congrArg Queue.running empty)]
  have source' : ((s.push [.turn i, .shed i]).faultSlot i .syncLost).out.source = some i := by simpa using source
  obtain ⟨mine, others, queues, coin, chg, supply, out, -, tasks, link⟩ :=
    State.goDark_spec source' (cause := .syncLost) rfl
  rw [← starts] at mine others queues coin chg supply out tasks link
  generalize s.holdExpires i = d at *
  have same : ((s.push [.turn i, .shed i]).faultSlot i .syncLost).out = s.out := by simp
  have now : ((s.push [.turn i, .shed i]).faultSlot i .syncLost).now = s.now := by simp
  rw [same] at mine out link
  rw [now] at out
  have faulted : d.slot i = { s.slot i with state := .fault, lastFault := some .syncLost } := by
    rw [mine, Slot.stored_of_unstaged level map, State.faultSlot_slot]
    rfl
  have waiting : d.todo = [.turn i, .shed i] := by simp [tasks, todo]
  have queue : d.queue i = s.queue i := State.queue_of_queues (queues.trans (by simp)) i
  refine ⟨{ d with todo := [] }, ?_, rfl, ?_⟩
  · refine (run_of_released waiting ⟨.inl (by rw [faulted]; exact unshed), .inr ?_⟩).trans (run_of_no_task _ _ rfl).symm
    rw [queue, empty]
    exact ⟨rfl, rfl⟩
  · refine ⟨faulted, fun j other => (others j other).trans (State.faultSlot_slot_of_ne _ other _), ?_, ?_, ?_, ?_, out, ?_⟩
    · exact queues.trans (by simp)
    · exact coin.trans (by simp)
    · exact chg.trans (by simp)
    · exact supply.trans (by simp)
    · refine link.trans (State.notice_link_congr ((State.faultSlot_syncLost_link _ i).trans ?_) _ _)
      by_cases fault : (s.slot i).state = .fault
      · rw [if_pos fault, if_pos (by exact fault)]
        rfl
      · rw [if_neg fault, if_neg (by exact fault)]
        exact State.notice_link_congr (by rfl) _ _

/-- Settles O43. -/
theorem lossHoldsAndExpiryFaults : Obligations.LossHoldsAndExpiryFaults := by
  refine ⟨fun dt s h => ⟨fun off => ?_, fun tick i su timer source set => ?_⟩, fun dt s h => ⟨fun off => ?_,
    fun tick i timer holding source state empty unshed level map => ?_⟩⟩
  · unfold exec execWatchFrameTimerEnd
    refine live_of_bare h ?_ h.1
    have off' : (s.advance dt).out.watch.timer = none := off
    rw [State.watchTimerEnds, off']
  · have timer' : (s.advance dt).out.watch.timer = some tick := timer
    have source' : (s.advance dt).out.source = some i := source
    unfold exec execWatchFrameTimerEnd
    refine live_of_bare h ?_ (by simpa using h.1)
    rw [State.watchTimerEnds, timer', source']
    dsimp only
    rw [State.loss, State.enterHolding_eq (by exact source), State.profileNat_of_setup (by exact set)]
    rfl
  · unfold exec execHoldTimerExpiry
    refine live_of_bare h ?_ h.1
    have off' : (s.advance dt).out.hold.timer = none := off
    rw [State.holdTimerEnds, off']
  · have timer' : (s.advance dt).out.hold.timer = some tick := timer
    have held : (s.advance dt).heldSlot = some i := (State.heldSlot_iff _ i).mpr ⟨holding, source⟩
    obtain ⟨t, ends, done, expired⟩ := State.holdExpires_idle (s := (s.advance dt).reach tick) state empty unshed source level
      map h.1
    have starts : (s.advance dt).holdTimerEnds = ((s.advance dt).reach tick).holdExpires i := by
      rw [State.holdTimerEnds, timer', held]
    unfold exec execHoldTimerExpiry
    have out : t.out = s.out.inDark (max (s.advance dt).now tick) := expired.out
    refine ⟨t, live_of_run h starts ends done, expired.mine, expired.others, expired.queues, expired.coin, expired.chg,
      expired.supply, by rw [out]; rfl, fun bridge => ?_, fun slot => ?_, expired.link.trans ?_⟩
    · simp [out, Output.inDark, bridge]
    · simp [out, Output.inDark, slot]
    · refine State.notice_link_congr ?_ _ _
      by_cases fault : (s.slot i).state = .fault
      · rw [if_pos fault, if_pos (by exact fault)]
        rfl
      · rw [if_neg fault, if_neg (by exact fault)]
        exact State.notice_link_congr (by rfl) _ _

end Sys2Proof.Machine

/-! The watch of the showing slot: frames compared, staged items applied, stalls found (R76 to R78, R155 to R157). -/

namespace Sys2Proof.Machine

theorem nextStall_eq (prev : Option Half) (running : Half) (stall : Nat) :
    nextStall prev running stall =
      if prev = none then stall else if prev = some running then min 65535 (stall + 1) else 0 := by
  cases prev <;> simp [nextStall]

/-! ## Staged items (R76) -/

theorem State.applyStaged_eq (s : State) (i : SlotNo) :
    s.applyStaged i =
      { s.modSlot i fun sl => sl.stored s.out with
        out := { s.out with
          stagedLevel := none, stagedMap := none, target := s.out.stagedLevel.getD s.out.target } } := by
  unfold State.applyStaged
  rw [State.storeStaged_eq]
  cases s.out.stagedLevel <;> rfl

/-! ## The close of a frame (R155, R156) -/

/-- The sampler after a frame has closed with a stall count, and the next has opened. -/
def Sampler.reopened (x : Sampler) (now : Nat) (coincident : Bool) (stall : Nat) : Sampler :=
  { x with
    running := 0xFFFF, prev := some x.running, line := if coincident then some 0 else none, lineAt := now
    point := 0, stall := stall }

section
variable {s : State} {i : SlotNo} {p : Profile} (coincident : Bool)

theorem State.stalled_iff (profile : s.profile i = some p) :
    s.stalled i = true ↔ p.stallLimit ≠ 0 ∧ p.stallLimit ≤ s.sampler.stall := by
  rw [State.stalled, profile]
  simp

/-- A frame that shows no stall: the next one opens. -/
theorem State.closeFrame_quiet (showing : s.out.mode = .showing) (profile : s.profile i = some p)
    (quiet : p.stallLimit = 0 ∨ s.sampler.close.stall < p.stallLimit) :
    s.closeFrame i coincident =
      { s with sampler := s.sampler.reopened s.now coincident s.sampler.close.stall } := by
  have calm : ¬ (s.modSampler Sampler.close).stalled i = true := by
    rw [State.stalled_iff (s := s.modSampler Sampler.close) profile]
    rintro ⟨limited, reached⟩
    exact quiet.elim limited (Nat.not_lt.mpr reached)
  unfold State.closeFrame
  dsimp only
  rw [if_neg calm, if_pos (by exact showing)]
  rfl

theorem State.declareStall_eq (profile : s.profile i = some p) :
    s.declareStall i =
      State.notice { s with sampler := { s.sampler with stall := 0 } } .stall
        (stallNoticeBody i (s.sampler.prev.getD 0) p.stallLimit p.stallPolicy) := by
  rw [State.declareStall, profile]
  rfl

/-- A stall under the NOTIFY policy is reported, and the next frame opens. -/
theorem State.closeFrame_notify (showing : s.out.mode = .showing) (profile : s.profile i = some p)
    (limited : p.stallLimit ≠ 0) (reached : p.stallLimit ≤ s.sampler.close.stall) (policy : p.stallPolicy = .notify) :
    ∃ l, s.closeFrame i coincident =
        { s with sampler := s.sampler.reopened s.now coincident 0, link := l } ∧
      l = (s.notice .stall (stallNoticeBody i s.sampler.running p.stallLimit .notify)).link := by
  have found : (s.modSampler Sampler.close).stalled i = true :=
    (State.stalled_iff (s := s.modSampler Sampler.close) profile).mpr ⟨limited, reached⟩
  have declared := State.declareStall_eq (s := s.modSampler Sampler.close) profile
  rw [policy] at declared
  refine ⟨_, ?_, rfl⟩
  unfold State.closeFrame
  dsimp only
  have kind : Option.map (·.stallPolicy) ((s.modSampler Sampler.close).profile i) = some .notify := by
    have profile' : (s.modSampler Sampler.close).profile i = some p := profile
    rw [profile', Option.map_some, policy]
  rw [if_pos found, kind]
  dsimp only
  rw [declared, if_pos (by simpa using showing), State.notice_eq, State.notice_link_congr (t := s) (by rfl)]
  rfl

/-- A stall under the RESTART policy is reported, and the output holds its slot for a restart (R157). -/
theorem State.closeFrame_restart (source : s.out.source = some i) (profile : s.profile i = some p)
    (limited : p.stallLimit ≠ 0) (reached : p.stallLimit ≤ s.sampler.close.stall) (policy : p.stallPolicy = .restart) :
    ∃ l, s.closeFrame i coincident =
        (State.placeRestart { s with
          out := s.out.entersHolding .restart s.now (p.rest + p.warmUp + p.recovery)
          sampler := { s.sampler.close.stop with stall := 0 }, link := l } i) ∧
      l = ((s.notice .stall (stallNoticeBody i s.sampler.running p.stallLimit .restart)).notice .output
        [3, byteOf i.val, 8, 1, s.out.classOut.code, 3]).link := by
  have found : (s.modSampler Sampler.close).stalled i = true :=
    (State.stalled_iff (s := s.modSampler Sampler.close) profile).mpr ⟨limited, reached⟩
  have declared : (s.modSampler Sampler.close).declareStall i = { s with
      sampler := { s.sampler.close with stall := 0 }
      link := (s.notice .stall (stallNoticeBody i s.sampler.running p.stallLimit .restart)).link } := by
    rw [State.declareStall_eq (s := s.modSampler Sampler.close) profile, policy, State.notice_eq,
      State.notice_link_congr (t := s) (by rfl)]
    rfl
  have kind : Option.map (·.stallPolicy) ((s.modSampler Sampler.close).profile i) = some .restart := by
    have profile' : (s.modSampler Sampler.close).profile i = some p := profile
    rw [profile', Option.map_some, policy]
  refine ⟨_, ?_, rfl⟩
  unfold State.closeFrame
  dsimp only
  rw [if_pos found, kind]
  dsimp only
  rw [declared]
  generalize s.notice .stall (stallNoticeBody i s.sampler.running p.stallLimit .restart) = v
  have time : State.profileNat { s with sampler := { s.sampler.close with stall := 0 }, link := v.link } i
      (fun p => p.rest + p.warmUp + p.recovery) = p.rest + p.warmUp + p.recovery := by
    have profile' : State.profile { s with sampler := { s.sampler.close with stall := 0 }, link := v.link } i = some p :=
      profile
    rw [State.profileNat, profile']
  rw [State.stallRestart, time, State.enterHolding_eq (by exact source), State.notice_eq,
    State.notice_link_congr (t := v) (by rfl)]
  exact if_neg fun showing => nomatch showing

/-- Whatever the close of a frame finds, it changes no slot's record but for a restart under way. -/
theorem State.closeFrame_slots (showing : s.out.mode = .showing) (source : s.out.source = some i)
    (profile : s.profile i = some p) :
    (s.closeFrame i coincident).slot i =
        { s.slot i with restartUnderWay := ((s.closeFrame i coincident).slot i).restartUnderWay } ∧
      ∀ j, j ≠ i → (s.closeFrame i coincident).slot j = s.slot j := by
  by_cases quiet : p.stallLimit = 0 ∨ s.sampler.close.stall < p.stallLimit
  · rw [State.closeFrame_quiet coincident showing profile quiet]
    exact ⟨rfl, fun _ _ => rfl⟩
  · obtain ⟨limited, reached⟩ := not_or.mp quiet
    cases policy : p.stallPolicy with
    | notify =>
      obtain ⟨l, e, -⟩ := State.closeFrame_notify coincident showing profile limited (Nat.not_lt.mp reached) policy
      rw [e]
      exact ⟨rfl, fun _ _ => rfl⟩
    | restart =>
      obtain ⟨l, e, -⟩ := State.closeFrame_restart coincident source profile limited (Nat.not_lt.mp reached) policy
      have slots : (s.closeFrame i coincident).slots = (s.modSlot i fun sl => { sl with restartUnderWay := true }).slots := by
        rw [e]
        rfl
      obtain ⟨mine, others⟩ := State.slot_of_modSlot slots
      exact ⟨by rw [mine], others⟩

end

/-! ## A frame pulse of the showing slot (R77, R78) -/

/-- The watch with a frame counted and the staged items stored. -/
def State.watched (s : State) (i : SlotNo) (opened irregular : Nat) : State :=
  { s.modSlot i fun sl => sl.stored s.out with
    out := { s.out with
      watch := { lineCount := opened, irregular := irregular, timer := some (s.now + 4800000) }
      stagedLevel := none, stagedMap := none, target := s.out.stagedLevel.getD s.out.target } }

theorem State.watchFrame_eq {s : State} {p : ProbeRecord} {a b : Nat} {d : Derived} (record : s.out.sourceProbe = some p)
    (countA : p.countA = some a) (countB : p.countB = some b) (figures : p.derived = some d) (i : SlotNo)
    (coincident : Bool) {ended opened irregular : Nat}
    (hended : ended = if coincident then s.out.watch.lineCount - 1 else s.out.watch.lineCount)
    (hopened : opened = if coincident then 1 else 0)
    (hirregular : irregular =
      if linesAway ended (nearerCount d.interlaced a b ended) ≤ 8 then 0 else s.out.watch.irregular + 1) :
    s.watchFrame i coincident =
      if 8 ≤ irregular then
        State.loss { s with out := { s.out with
          watch := { lineCount := opened, irregular := irregular, timer := some (s.now + 4800000) } } } i .lossFrames
      else (s.watched i opened irregular).closeFrame i coincident := by
  subst hended hopened
  have compared : irregular = if fitsProbe s.out.sourceProbe
      (if coincident then s.out.watch.lineCount - 1 else s.out.watch.lineCount) then 0 else s.out.watch.irregular + 1 := by
    rw [hirregular, record]
    exact if_congr (fitsProbe_iff p a b _ d countA countB figures).symm rfl rfl
  rw [State.watchFrame, splitFrame_eq]
  dsimp only
  rw [← compared]
  refine if_congr Iff.rfl rfl ?_
  rw [State.applyStaged_eq]
  rfl

theorem State.watched_slot {s : State} {i : SlotNo} {su : Setup} (set : (s.slot i).setup = some su) (opened irregular : Nat) :
    (s.watched i opened irregular).slot i =
        { s.slot i with setup := some {
          profile := { su.profile with audioLevel := s.out.stagedLevel.getD su.profile.audioLevel }
          map := s.out.stagedMap.getD su.map } } ∧
      ∀ j, j ≠ i → (s.watched i opened irregular).slot j = s.slot j := by
  obtain ⟨mine, others⟩ := State.slot_of_modSlot (t := s.watched i opened irregular) (s := s) (i := i)
    (f := fun sl => sl.stored s.out) rfl
  refine ⟨mine.trans ?_, others⟩
  rw [Slot.stored, set, Option.map_some, Setup.stored_eq]

theorem State.placeRestart_reads (s : State) (i : SlotNo) :
    ((s.placeRestart i).slot i).restartUnderWay = true ∧
      (s.placeRestart i).queue i =
        { s.queue i with out := some {
          kind := .restart, steps := [.powerOff, .powerOn, .probe], done := 0, waiver := true, marked := false } } ∧
      ∀ j, j ≠ i → (s.placeRestart i).queue j = s.queue j := by
  obtain ⟨mine, -⟩ := State.slot_of_modSlot (t := s.placeRestart i) (s := s) (i := i)
    (f := fun sl => { sl with restartUnderWay := true }) rfl
  have queues : (s.placeRestart i).queues = (s.modQueue i fun q => { q with out := some {
      kind := .restart, steps := [.powerOff, .powerOn, .probe], done := 0, waiver := true, marked := false } }).queues := rfl
  exact ⟨by rw [mine], (State.queue_of_queues queues i).trans (State.modQueue_queue_self ..),
    fun j other => (State.queue_of_queues queues j).trans (State.modQueue_queue_of_ne _ other.symm _)⟩

/-- Settles O44. -/
theorem watchComparesFrames : Obligations.WatchComparesFrames := by
  intro s i su p a b d coincident showing source record countA countB figures set ended opened regular irregular t prof
    stored count shown next restart stalled
  have taken : t = if 8 ≤ irregular then _ else _ := State.watchFrame_eq record countA countB figures i coincident
    (ended := ended) (opened := opened) (irregular := irregular) rfl rfl rfl
  refine ⟨fun lost => ?_, fun kept => ?_⟩
  · rw [if_pos lost, State.loss, State.enterHolding_eq (by exact source), State.profileNat_of_setup (by exact set)] at taken
    rw [taken]
    refine ⟨by simp; rfl, by simp, by simp, by simp; rfl, State.notice_link_congr (by rfl) _ _⟩
  · rw [if_neg (by omega)] at taken
    obtain ⟨mine, others⟩ := State.watched_slot set opened irregular
    have profile := State.profile_of_setup (s := s.watched i opened irregular) (congrArg Slot.setup mine)
    have counted : (s.watched i opened irregular).sampler.close.stall = count := nextStall_eq ..
    have under : ((s.watched i opened irregular).slot i).restartUnderWay = (s.slot i).restartUnderWay := by rw [mine]
    obtain ⟨closed, apart⟩ := State.closeFrame_slots coincident (s := s.watched i opened irregular) showing source profile
    rw [taken]
    refine ⟨closed.trans (by rw [mine]), fun j other => (apart j other).trans (others j other), fun quiet => ?_,
      fun limited reached policy => ?_, fun limited reached policy => ?_⟩
    · rw [State.closeFrame_quiet coincident (s := s.watched i opened irregular) showing profile (by rw [counted]; exact quiet),
        counted]
      exact ⟨rfl, rfl, rfl, rfl, rfl, under⟩
    · obtain ⟨l, e, link⟩ := State.closeFrame_notify coincident (s := s.watched i opened irregular) showing profile limited
        (by rw [counted]; exact reached) policy
      rw [e]
      exact ⟨rfl, rfl, link.trans (State.notice_link_congr (by rfl) _ _), rfl, rfl, under⟩
    · obtain ⟨l, e, link⟩ := State.closeFrame_restart coincident (s := s.watched i opened irregular) source profile limited
        (by rw [counted]; exact reached) policy
      rw [e]
      obtain ⟨under, mine, others⟩ := State.placeRestart_reads _ i
      exact ⟨rfl, rfl, link.trans (State.notice_link_congr (State.notice_link_congr (by rfl) _ _) _ _), under, mine, others,
        rfl⟩

end Sys2Proof.Machine

/-! How pulses reach the output: the roles of a slot, the OUTPUT request, the rejoin (R77, R81 to R84, R94, R101). -/

namespace Sys2Proof.Machine

/-! ## The role of a slot (R77, R81, R83, R94, R101) -/

section
variable {s : State} {i : SlotNo}

theorem State.role_of_shown (showing : s.out.mode = .showing) (source : s.out.source = some i) :
    s.role i = .watched := by
  unfold State.role
  rw [showing]
  exact if_pos (decide_eq_true source)

theorem State.role_of_unshown (mode : s.out.mode = .showing ∨ s.out.mode = .holding) (other : s.out.source ≠ some i) :
    s.role i = .none := by
  unfold State.role
  rcases mode with showing | holding
  · rw [showing]
    exact if_neg (by simpa [State.isSource] using other)
  · rw [holding]
    exact if_neg (by simpa [State.isSource] using other)

theorem State.role_of_changing {c : Change} (changing : s.out.mode = .changing) (chg : s.chg = some c) :
    s.role i = s.changeRole c i := by
  unfold State.role
  rw [changing, chg]

theorem State.role_of_aligning (holding : s.out.mode = .holding) (source : s.out.source = some i)
    (rejoin : s.out.hold.rejoin = some .align) : s.role i = .rejoinAligned := by
  unfold State.role
  rw [holding, rejoin]
  exact if_pos (decide_eq_true source)

theorem State.role_of_settling (holding : s.out.mode = .holding) (source : s.out.source = some i)
    (rejoin : s.out.hold.rejoin = some .settle) : s.role i = .rejoinSettling := by
  unfold State.role
  rw [holding, rejoin]
  exact if_pos (decide_eq_true source)

theorem State.role_of_held (holding : s.out.mode = .holding) (source : s.out.source = some i)
    (rejoin : s.out.hold.rejoin = none) :
    s.role i = if s.out.hold.probing && s.rejoinable i && !s.outputRequest then .heldWaiting else .none := by
  unfold State.role
  rw [holding, rejoin]
  exact if_pos (decide_eq_true source)

end

theorem State.changeRole_aligned {s : State} {c : Change} {i : SlotNo} (stage : c.stage = .align)
    (target : c.toSlot = some i) : s.changeRole c i = .aligned := by
  rw [State.changeRole, stage]
  exact if_pos target

theorem State.changeRole_settling {s : State} {c : Change} {i : SlotNo} (stage : c.stage = .settle)
    (target : c.toSlot = some i) : s.changeRole c i = .settling := by
  rw [State.changeRole, stage]
  exact if_pos target

theorem State.changeRole_outgoing {s : State} {c : Change} {i : SlotNo} (stage : c.stage = .bridge)
    (sync : s.out.sync = .slot i) : s.changeRole c i = .outgoing := by
  rw [State.changeRole, stage]
  exact if_pos sync

theorem State.changeRole_none {c : Change} (stage : c.stage = .fade ∨ c.stage = .prepare ∨ c.stage = .reclass)
    (s : State) (i : SlotNo) : s.changeRole c i = .none := by
  unfold State.changeRole
  rcases stage with stage | stage | stage <;> rw [stage]

/-! ## The OUTPUT request (R81) -/

theorem State.placeOutput_of_busy {s : State} (absent : s.outputRequest = false) (zero : s.engine 0 ≠ none)
    (one : s.engine 1 ≠ none) (i : SlotNo) :
    s.placeOutput i = { s with probeList := { kind := .output, slot := i } :: s.probeList } := by
  rw [State.placeOutput, if_neg (by simp [absent])]
  exact State.takeEngines_of_busy (s := { s with probeList := { kind := .output, slot := i } :: s.probeList }) zero one

theorem State.placeOutput_of_free {s : State} {k : EngineNo} (absent : s.outputRequest = false)
    (free : s.engine k = none) (first : k = 0 ∨ s.engine 0 ≠ none) (list : s.probeList = []) (i : SlotNo) :
    s.placeOutput i = s.setEngine k (some (Measure.start { kind := .output, slot := i } s.now)) := by
  rw [State.placeOutput, if_neg (by simp [absent])]
  refine (State.takeEngines_of_one (s := { s with probeList := { kind := .output, slot := i } :: s.probeList })
    (r := { kind := .output, slot := i }) free first (by rw [list])).trans ?_
  rw [← list]

/-! ## A frame pulse in ALIGN (R101) -/

theorem Cut.alignFrame_eq (c : Cut) (coincident : Bool) (p : Option ProbeRecord) :
    c.alignFrame coincident p =
      (c.opened && fitsProbe p (if coincident then c.alignCount - 1 else c.alignCount),
        { c with opened := true, alignCount := if coincident then 1 else 0 }) := by
  unfold Cut.alignFrame
  rw [splitFrame_eq]

/-- Whether a frame in ALIGN is the cut. -/
theorem Cut.qualifies_iff (c : Cut) {p : ProbeRecord} {a b : Nat} {d : Derived} (countA : p.countA = some a)
    (countB : p.countB = some b) (figures : p.derived = some d) (n : Nat) :
    (c.opened && fitsProbe (some p) n) = true ↔
      c.opened = true ∧ linesAway n (nearerCount d.interlaced a b n) ≤ 8 := by
  rw [Bool.and_eq_true, fitsProbe_iff p a b n d countA countB figures]

theorem State.rejoinAlign_eq (s : State) (i : SlotNo) (coincident : Bool) :
    s.rejoinAlign i coincident =
      if s.out.hold.cut.opened && fitsProbe s.out.sourceProbe
        (if coincident then s.out.hold.cut.alignCount - 1 else s.out.hold.cut.alignCount) then
        if s.profileNat i (·.settleFrames) = 0 then
          ((s.cutTo i).modHold fun h =>
            { h with rejoin := some .settle, cut := Cut.settling 0 (s.after 100) }).completeRejoin i
        else (s.cutTo i).modHold fun h =>
          { h with rejoin := some .settle, cut := Cut.settling (s.profileNat i (·.settleFrames)) (s.after 100) }
      else s.modHold fun h =>
        { h with cut := { s.out.hold.cut with opened := true, alignCount := if coincident then 1 else 0 } } := by
  unfold State.rejoinAlign
  rw [Cut.alignFrame_eq]
  dsimp only
  refine if_congr Iff.rfl ?_ rfl
  split
  next none => rw [none]
  next => rfl

/-! ## The rejoin's completion (R84) -/

theorem State.activate_eq {s : State} {i : SlotNo} (source : s.out.source = some i)
    (state : (s.slot i).state = .active ∨ (s.slot i).state = .ready) :
    ∃ l, s.activate i = { s.modSlot i fun sl => { sl with state := .active } with link := l } := by
  unfold State.activate
  by_cases ready : (s.slot i).state = .ready
  · rw [if_pos ⟨source, ready⟩]
    exact ⟨_, s.setState_eq i .active⟩
  · have active := state.resolve_right ready
    rw [if_neg fun both => ready both.2, State.modSlot_self (by rw [← active])]
    exact ⟨s.link, rfl⟩

theorem State.bit_lineNow (s : State) (i : SlotNo) :
    bit (s.lineNow i) = if (s.tap i).lastLine = some s.now then 1 else 0 := by
  unfold State.lineNow bit
  exact if_congr decide_eq_true_iff rfl rfl

/-- A level staged is the level stored (R76). -/
theorem State.profileNat_stored {s t : State} {i : SlotNo} {su : Setup} (set : (s.slot i).setup = some su)
    (slots : t.slots = (s.modSlot i fun sl => sl.stored s.out).slots) :
    t.profileNat i (·.audioLevel) = s.out.stagedLevel.getD su.profile.audioLevel := by
  have kept : (t.slot i).setup = some (su.stored s.out) := by
    rw [(State.slot_of_modSlot slots).1, Slot.stored, set]
    rfl
  rw [State.profileNat_of_setup kept, Setup.stored_eq]

/-- What completes a rejoin once the slot is ACTIVE, before its notice (R84). -/
def State.rejoined (s : State) (i : SlotNo) (level : Nat) : State :=
  { s.modSlot i fun sl => sl.stored s.out with
    out := { s.out with
      stagedLevel := none, stagedMap := none, target := level
      watch := { lineCount := bit (s.lineNow i), irregular := 0, timer := some (s.now + 4800000) } }
    sampler := Sampler.begin s.now (s.lineNow i)
    todo := .payout :: s.todo }

theorem State.completeRejoin_of_active {s t : State} {i : SlotNo} {su : Setup}
    (active : (s.modOut fun o => { o with blanked := false, mode := .showing, hold := Hold.none }).activate i = t)
    (set : (t.slot i).setup = some su) :
    ∃ l, s.completeRejoin i = { t.rejoined i (t.out.stagedLevel.getD su.profile.audioLevel) with link := l } := by
  have level : (t.applyStaged i).profileNat i (·.audioLevel) = t.out.stagedLevel.getD su.profile.audioLevel :=
    State.profileNat_stored set (by rw [State.applyStaged_eq])
  unfold State.completeRejoin
  dsimp only
  rw [active, level, State.applyStaged_eq, State.outNotice_eq]
  exact ⟨_, rfl⟩

/-- The last frame pulse of the rejoin's SETTLE shows the picture again (R84). -/
theorem State.rejoinSettle_last {s : State} {i : SlotNo} {su : Setup} (source : s.out.source = some i)
    (set : (s.slot i).setup = some su) (last : s.out.hold.cut.settleFrames ≤ s.out.hold.cut.settleCount + 1)
    (state : (s.slot i).state = .active ∨ (s.slot i).state = .ready) :
    ∃ l, s.rejoinSettle i =
      { State.rejoined { s.modSlot i fun sl => { sl with state := .active } with
          out := { s.out with blanked := false, mode := .showing, hold := Hold.none } } i
          (s.out.stagedLevel.getD su.profile.audioLevel) with link := l } := by
  obtain ⟨l, active⟩ := State.activate_eq (s := (s.modHold fun h =>
    { h with cut := s.out.hold.cut.settleFrame (s.after 100) }).modOut fun o =>
      { o with blanked := false, mode := .showing, hold := Hold.none }) source state
  have kept : ((s.modSlot i fun sl => { sl with state := .active }).slot i).setup = some su := by
    rw [State.modSlot_slot_self]
    exact set
  obtain ⟨l', e⟩ := State.completeRejoin_of_active active (by exact kept)
  refine ⟨l', Eq.trans ?_ (e.trans rfl)⟩
  rw [State.rejoinSettle]
  exact if_pos (by simpa [Cut.settleFrame] using last)

/-- A line pulse counts once the first counted frame has opened (R101). -/
theorem Cut.alignLine_eq (c : Cut) :
    c.alignLine = { c with alignCount := if c.opened then min 2047 (c.alignCount + 1) else c.alignCount } := by
  unfold Cut.alignLine
  split <;> rfl

/-- Settles O45. -/
theorem pulsesReachOutput : Obligations.PulsesReachOutput := by
  refine ⟨fun dt i width s h zero one wide => ⟨fun showing source => ?_, fun mode other => ?_, fun c changing chg =>
    ⟨fun stage target => ?_, fun stage target => ?_, fun stage sync => ?_, fun stage => ?_⟩,
    fun holding source => ⟨fun rejoin => ?_, fun rejoin => ?_, fun rejoin => ⟨fun waits => ?_,
      fun probing absent measurable => ⟨fun zero' one' => ?_, fun k free first list => ?_⟩⟩⟩⟩,
    fun s i p a b d su coincident source record countA countB figures set => ⟨fun opens => ?_, fun opened fits frames => ?_,
      fun more => ?_, fun last state => ?_⟩,
    fun dt i opens s h zero one => ⟨fun showing source sampling => ?_, fun holding source => ⟨fun rejoin => ?_, fun other => ?_⟩,
      fun mode other => ?_, fun c changing chg stage target => ?_⟩⟩
  · rw [exec_framePulse_unmeasured h wide zero one, State.role_of_shown showing source]
    rfl
  · rw [exec_framePulse_unmeasured h wide zero one, State.role_of_unshown mode other]
    exact congrArg Host.Outcome.next (State.finish_of_no_task _ h.1)
  · rw [exec_framePulse_unmeasured h wide zero one, State.role_of_changing changing chg, State.changeRole_aligned stage target]
    rfl
  · rw [exec_framePulse_unmeasured h wide zero one, State.role_of_changing changing chg, State.changeRole_settling stage target]
    rfl
  · rw [exec_framePulse_unmeasured h wide zero one, State.role_of_changing changing chg, State.changeRole_outgoing stage sync]
    rfl
  · rw [exec_framePulse_unmeasured h wide zero one, State.role_of_changing changing chg, State.changeRole_none stage]
    exact congrArg Host.Outcome.next (State.finish_of_no_task _ h.1)
  · rw [exec_framePulse_unmeasured h wide zero one, State.role_of_aligning holding source rejoin]
    rfl
  · rw [exec_framePulse_unmeasured h wide zero one, State.role_of_settling holding source rejoin]
    rfl
  · rw [exec_framePulse_unmeasured h wide zero one, State.role_of_held holding source rejoin, if_neg]
    · exact congrArg Host.Outcome.next (State.finish_of_no_task _ h.1)
    · rw [Bool.and_eq_true, Bool.and_eq_true, State.rejoinable_iff, Bool.not_eq_true']
      rintro ⟨⟨probing, measurable⟩, absent⟩
      rcases waits with idle | present | not
      · simp [idle] at probing
      · simp [present] at absent
      · exact not measurable
  · have waits : (s.out.hold.probing && s.rejoinable i && !s.outputRequest) = true := by
      simp [probing, absent, (s.rejoinable_iff i).mpr measurable]
    rw [exec_framePulse_unmeasured h wide zero one, State.role_of_held holding source rejoin, if_pos waits, State.roleFrame,
      State.placeOutput_of_busy (s := (s.advance dt).framed i) absent zero' one']
    exact congrArg Host.Outcome.next (State.finish_of_no_task _ h.1)
  · have waits : (s.out.hold.probing && s.rejoinable i && !s.outputRequest) = true := by
      simp [probing, absent, (s.rejoinable_iff i).mpr measurable]
    rw [exec_framePulse_unmeasured h wide zero one, State.role_of_held holding source rejoin, if_pos waits, State.roleFrame,
      State.placeOutput_of_free (s := (s.advance dt).framed i) absent free first list]
    exact congrArg Host.Outcome.next (State.finish_of_no_task _ h.1)
  · rw [State.rejoinAlign_eq, if_neg]
    · rfl
    · rw [record, Cut.qualifies_iff _ countA countB figures]
      rintro ⟨opened, fits⟩
      rcases opens with closed | unfit
      · simp [closed] at opened
      · exact unfit fits
  · have some : s.profileNat i (·.settleFrames) ≠ 0 := by rw [State.profileNat_of_setup set]; exact frames
    rw [State.rejoinAlign_eq, if_pos, if_neg some, State.profileNat_of_setup set]
    · rfl
    · rw [record, Cut.qualifies_iff _ countA countB figures]
      exact ⟨opened, fits⟩
  · rw [State.rejoinSettle]
    exact if_neg (by simpa [Cut.settleFrame] using more)
  · obtain ⟨l, e⟩ := State.rejoinSettle_last source set last state
    have slots : (s.rejoinSettle i).slots = ((s.modSlot i fun sl => { sl with state := .active }).modSlot i fun sl =>
        sl.stored s.out).slots := by
      rw [e]
      rfl
    obtain ⟨mine, others⟩ := State.slot_of_modSlot slots
    have shown : (s.rejoinSettle i).slot i = { s.slot i with
        state := .active
        setup := some {
          profile := { su.profile with audioLevel := s.out.stagedLevel.getD su.profile.audioLevel }
          map := s.out.stagedMap.getD su.map } } := by
      rw [mine, State.modSlot_slot_self, Slot.stored, set, Option.map_some, Setup.stored_eq]
    refine ⟨?_, shown, fun j other => (others j other).trans (State.modSlot_slot_of_ne _ other.symm _), ?_⟩
    · rw [e, ← State.bit_lineNow]
      rfl
    · rw [e]
      exact ⟨rfl, rfl, rfl, rfl, rfl, rfl, rfl, rfl, rfl⟩
  · refine exec_linePulse_unmeasured h zero one opens ?_ h.1
    rw [State.role_of_shown showing source, State.roleLine, State.watchLine]
    have on (now : Nat) : s.sampler.linePulse now = s.sampler.openLine now := if_pos sampling
    exact congrArg (fun x : Sampler => ({ (s.advance dt).lined i with
      out := { s.out with watch := { s.out.watch with lineCount := countLine s.out.watch.lineCount } }
      sampler := x } : State)) (on _)
  · refine exec_linePulse_unmeasured h zero one opens ?_ h.1
    rw [State.role_of_aligning holding source rejoin, State.roleLine, State.modHold, State.modOut, Cut.alignLine_eq]
    rfl
  · refine exec_linePulse_unmeasured h zero one opens ?_ h.1
    cases rejoin : s.out.hold.rejoin with
    | none =>
      rw [State.role_of_held holding source rejoin]
      split <;> rfl
    | some stage =>
      cases stage with
      | align => exact absurd rejoin other
      | settle =>
        rw [State.role_of_settling holding source rejoin]
        rfl
  · refine exec_linePulse_unmeasured h zero one opens ?_ h.1
    rw [State.role_of_unshown mode other]
    rfl
  · refine exec_linePulse_unmeasured h zero one opens ?_ h.1
    rw [State.role_of_changing changing chg, State.changeRole_aligned stage target, State.roleLine,
      State.modChange_of_some (s := (s.advance dt).lined i) chg, Cut.alignLine_eq]
    rfl

end Sys2Proof.Machine

/-! The cut of a changeover, its completion, and the shed of the outgoing slot (R19, R101 to R104). -/

namespace Sys2Proof.Machine

/-! ## A frame pulse in ALIGN and in SETTLE (R101, R103) -/

theorem State.changeAlign_of_unfit {s : State} {c : Change} (chg : s.chg = some c) (i : SlotNo) (coincident : Bool)
    (unfit : ¬ (c.cut.opened && fitsProbe c.targetProbe
      (if coincident then c.cut.alignCount - 1 else c.cut.alignCount)) = true) :
    s.changeAlign i coincident =
      { s with chg := some { c with cut :=
        { c.cut with opened := true, alignCount := if coincident then 1 else 0 } } } := by
  unfold State.changeAlign
  rw [chg]
  dsimp only
  rw [Cut.alignFrame_eq]
  exact (if_neg unfit).trans (State.modChange_of_some chg _)

theorem State.changeAlign_of_cut {s : State} {c : Change} {su : Setup} {i : SlotNo} (chg : s.chg = some c)
    (set : (s.slot i).setup = some su) (frames : su.profile.settleFrames ≠ 0) (coincident : Bool)
    (fits : (c.cut.opened && fitsProbe c.targetProbe
      (if coincident then c.cut.alignCount - 1 else c.cut.alignCount)) = true) :
    s.changeAlign i coincident =
      { s with
        out := { s.out with sync := .slot i }
        chg := some { c with stage := .settle, cut := Cut.settling su.profile.settleFrames (s.now + 4800000) } } := by
  unfold State.changeAlign
  rw [chg]
  dsimp only
  rw [Cut.alignFrame_eq]
  refine (if_pos fits).trans ?_
  rw [State.profileNat_of_setup set, if_neg frames]
  exact State.modChange_of_some (s := s.cutTo i) chg _

theorem State.changeSettle_of_some {s : State} {c : Change} (chg : s.chg = some c) (i : SlotNo) :
    s.changeSettle i =
      if c.cut.settleFrames ≤ c.cut.settleCount + 1 then
        State.completeChange { s with chg := some { c with cut := c.cut.settleFrame (s.after 100) } } i
      else { s with chg := some { c with cut := c.cut.settleFrame (s.after 100) } } := by
  unfold State.changeSettle
  rw [chg]
  dsimp only
  rw [State.modChange_of_some chg]
  rfl

/-! ## The shed of the outgoing slot (R19, R104) -/

/-- A slot that is shed after a changeover. -/
structure State.Sheds (s : State) (source : Option SlotNo) (i k : SlotNo) : Prop where
  source : source = some k
  other : k ≠ i
  power : (s.slot k).power = true
  policy : ∃ su, (s.slot k).setup = some su ∧ su.profile.policy = .shed

theorem State.policy_iff (s : State) (k : SlotNo) :
    (s.profile k).map (·.policy) = some .shed ↔ ∃ su, (s.slot k).setup = some su ∧ su.profile.policy = .shed := by
  unfold State.profile
  cases (s.slot k).setup <;> simp

theorem State.flagShed_of_not {s : State} {source : Option SlotNo} {i : SlotNo} (h : ∀ k, ¬ s.Sheds source i k) :
    s.flagShed source i = s := by
  unfold State.flagShed
  split
  next => rfl
  next k =>
    refine if_neg ?_
    rintro ⟨other, -, policy, power⟩
    exact h k ⟨rfl, other, power, (s.policy_iff k).mp policy⟩

theorem State.flagShed_of_sheds {s : State} {source : Option SlotNo} {i k : SlotNo} (h : s.Sheds source i k)
    (free : s.isReselect k = false) :
    s.flagShed source i = State.shedTest (s.modSlot k fun sl => { sl with shedPending := true }) k := by
  unfold State.flagShed
  rw [h.source]
  exact if_pos ⟨h.other, free, (s.policy_iff k).mpr h.policy, h.power⟩

/-- A slot powered off that holds no permit and is not the sync source: records and the link change (R13). -/
theorem State.powerDown_eq {s : State} {k : SlotNo} (free : s.supply.permit ≠ some k) (sync : s.out.sync ≠ .slot k) :
    ∃ slots l, s.powerDown k = { s with slots := slots, link := l } := by
  have off : s.powerDown k = (s.openSwitch k).setState k .resting := by
    unfold State.powerDown State.releasePermit
    rw [if_neg (by simpa [State.openSwitch] using free)]
    unfold State.outgoingOpened
    split
    next => rfl
    next => exact if_neg (by simpa [State.openSwitch] using sync)
  rw [off, State.setState_eq]
  exact ⟨_, _, rfl⟩

theorem State.shedTest_eq {s : State} {k : SlotNo} (free : s.supply.permit ≠ some k) (sync : s.out.sync ≠ .slot k) :
    ∃ slots l, s.shedTest k = { s with slots := slots, link := l } := by
  unfold State.shedTest
  split
  · exact State.powerDown_eq free sync
  · exact ⟨s.slots, s.link, rfl⟩

section
variable {s : State} {source : Option SlotNo} {i : SlotNo}

/-- The shed of an outgoing slot changes records and the link. -/
theorem State.flagShed_eq (fresh : ∀ k, s.isReselect k = false)
    (free : ∀ k, source = some k → s.supply.permit ≠ some k) (sync : s.out.sync = .slot i) :
    ∃ slots l, s.flagShed source i = { s with slots := slots, link := l } := by
  by_cases sheds : ∃ k, s.Sheds source i k
  · obtain ⟨k, h⟩ := sheds
    rw [State.flagShed_of_sheds h (fresh k)]
    obtain ⟨slots, l, e⟩ := State.shedTest_eq (s := s.modSlot k fun sl => { sl with shedPending := true }) (k := k)
      (free k h.source) (by simp [sync, h.other.symm])
    exact ⟨slots, l, e⟩
  · rw [State.flagShed_of_not (not_exists.mp sheds)]
    exact ⟨s.slots, s.link, rfl⟩

theorem State.shedTest_slot_of_ne (s : State) {j k : SlotNo} (other : j ≠ k) : (s.shedTest k).slot j = s.slot j := by
  unfold State.shedTest
  split
  · exact State.powerDown_slot_of_ne _ other
  · rfl

theorem State.flagShed_slot_of_not (fresh : ∀ k, s.isReselect k = false) {j : SlotNo} (stays : ¬ s.Sheds source i j) :
    (s.flagShed source i).slot j = s.slot j := by
  by_cases sheds : ∃ k, s.Sheds source i k
  · obtain ⟨k, h⟩ := sheds
    have other : j ≠ k := fun e => stays (e ▸ h)
    rw [State.flagShed_of_sheds h (fresh k), State.shedTest_slot_of_ne _ other, State.modSlot_slot_of_ne _ other.symm]
  · rw [State.flagShed_of_not (not_exists.mp sheds)]

/-- A slot with work left keeps its flag (R19). -/
theorem State.flagShed_slot_busy (fresh : ∀ k, s.isReselect k = false) {j : SlotNo} (sheds : s.Sheds source i j)
    (work : (s.queue j).ctrl ≠ [] ∨ (s.queue j).out ≠ none) :
    (s.flagShed source i).slot j = { s.slot j with shedPending := true } := by
  rw [State.flagShed_of_sheds sheds (fresh j), State.shedTest, if_neg, State.modSlot_slot_self]
  intro ready
  obtain ⟨-, ctrl, out, -⟩ := (State.shedReady_iff _ j).mp ready
  exact work.elim (absurd ctrl) (absurd out)

/-- A READY slot without work is powered off at once (R19). -/
theorem State.flagShed_slot_idle (fresh : ∀ k, s.isReselect k = false) {j : SlotNo} (sheds : s.Sheds source i j)
    (ctrl : (s.queue j).ctrl = []) (out : (s.queue j).out = none) (ready : (s.slot j).state = .ready)
    (other : s.target ≠ some j) {su : Setup} (set : (s.slot j).setup = some su) :
    (s.flagShed source i).slot j =
      { s.slot j with
        power := false, state := .resting, lastProbe := none, shedPending := false, warm := none
        restWaiting := false, faultAtEnd := false, rest := some (s.now + su.profile.rest * 48000) } := by
  have due : (s.modSlot j fun sl => { sl with shedPending := true }).shedReady j = true :=
    (State.shedReady_iff _ j).mpr ⟨by simp, ctrl, out, other, by simp [ready]⟩
  rw [State.flagShed_of_sheds sheds (fresh j), State.shedTest, if_pos due,
    State.powerDown_slot (su := su) (by simpa using set), State.modSlot_slot_self]
  rfl

end

/-! ## The completion (R104) -/

/-- The picture of a slot that has become the source, shown (R104). -/
def State.shows (s : State) (level : Nat) (i : SlotNo) : State :=
  { s with
    out := { s.out with
      target := level
      watch := { lineCount := bit (s.lineNow i), irregular := 0, timer := some (s.now + 4800000) } }
    sampler := Sampler.begin s.now (s.lineNow i) }

theorem State.payoutTest_of_unpaid {s : State} {i : SlotNo} {su : Setup} (source : s.out.source = some i)
    (set : (s.slot i).setup = some su) (unpaid : su.profile.coin = none) : s.payoutTest = s := by
  rcases s.payoutTest_cases with ⟨j, p, -, profile, -⟩ | ⟨-, same⟩
  · obtain ⟨-, -, source', su', set', coin⟩ := (s.payoutProfile_iff j p).mp profile
    cases source.symm.trans source'
    cases set.symm.trans set'
    cases unpaid.symm.trans coin
  · exact same

theorem State.completeChange_eq {s t u : State} {c : Change} {i : SlotNo} {su : Setup} (chg : s.chg = some c)
    (reselect : c.reselect = none)
    (active : (s.modOut fun o =>
      { o with blanked := false, mode := .showing, source := some i, sourceProbe := c.targetProbe }).activate i = t)
    (source : t.out.source = some i) (set : (t.slot i).setup = some su) (unpaid : su.profile.coin = none)
    (shed : (t.shows su.profile.audioLevel i).flagShed c.fromSlot i = u) :
    ∃ l, s.completeChange i = { u with chg := none, link := l } := by
  have shown : ((t.modOut fun o => { o with target := su.profile.audioLevel }).startWatch i).startSampler i =
      t.shows su.profile.audioLevel i := rfl
  unfold State.completeChange
  rw [chg]
  dsimp only
  rw [active, State.payoutTest_of_unpaid source set unpaid, State.profileNat_of_setup set, shown, shed, reselect,
    State.completeSelect_eq, State.outNotice_eq]
  exact ⟨_, rfl⟩

/-- The state at a completion just before the outgoing slot's shed: the target is ACTIVE and shown (R104). -/
def State.completing (s : State) (i : SlotNo) (c : Change) (level : Nat) (l : Link) : State :=
  State.shows { s.modSlot i fun sl => { sl with state := .active } with
    chg := some { c with cut := c.cut.settleFrame (s.after 100) }
    out := { s.out with blanked := false, mode := .showing, source := some i, sourceProbe := c.targetProbe }
    link := l } level i

theorem State.changeSettle_last {s : State} {c : Change} {i : SlotNo} {su : Setup} (chg : s.chg = some c)
    (last : c.cut.settleFrames ≤ c.cut.settleCount + 1) (ready : (s.slot i).state = .ready) (reselect : c.reselect = none)
    (set : (s.slot i).setup = some su) (unpaid : su.profile.coin = none) :
    ∃ l l', s.changeSettle i =
      { (s.completing i c su.profile.audioLevel l).flagShed c.fromSlot i with chg := none, link := l' } := by
  obtain ⟨l, active⟩ := State.activate_eq (i := i) (s := State.modOut
    { s with chg := some { c with cut := c.cut.settleFrame (s.after 100) } } fun o =>
      { o with blanked := false, mode := .showing, source := some i, sourceProbe := c.targetProbe }) rfl (.inr ready)
  have kept : ((s.modSlot i fun sl => { sl with state := .active }).slot i).setup = some su := by
    rw [State.modSlot_slot_self]
    exact set
  obtain ⟨l', e⟩ := State.completeChange_eq
    (s := { s with chg := some { c with cut := c.cut.settleFrame (s.after 100) } }) rfl reselect active rfl (by exact kept)
    unpaid rfl
  rw [State.changeSettle_of_some chg, if_pos last, e]
  exact ⟨l, l', rfl⟩

theorem State.completing_sheds {s : State} {i : SlotNo} {c : Change} {level : Nat} {l : Link} {k : SlotNo} :
    (s.completing i c level l).Sheds c.fromSlot i k ↔
      c.fromSlot = some k ∧ k ≠ i ∧ (s.slot k).power = true ∧
        ∃ su, (s.slot k).setup = some su ∧ su.profile.policy = .shed := by
  have others (other : k ≠ i) : (s.completing i c level l).slot k = s.slot k :=
    (State.slot_of_modSlot (s := s) (i := i) (f := fun sl => { sl with state := .active })
      (t := s.completing i c level l) rfl).2 k other
  refine ⟨fun h => ?_, fun ⟨source, other, power, policy⟩ => ?_⟩
  · have same := others h.other
    exact ⟨h.source, h.other, same ▸ h.power, same ▸ h.policy⟩
  · have same := others other
    exact ⟨source, other, same.symm ▸ power, same.symm ▸ policy⟩

/-- Settles O52. -/
theorem alignCutsAndSettleCompletes : Obligations.AlignCutsAndSettleCompletes := by
  intro s i c p a b d su coincident chg target record countA countB figures set
  refine ⟨fun opens => ?_, fun opened fits frames => ?_, fun more => ?_, fun last ready unpaid reselect sync permit => ?_⟩
  · refine State.changeAlign_of_unfit chg i coincident ?_
    rw [record, Cut.qualifies_iff _ countA countB figures]
    rintro ⟨opened, fits⟩
    rcases opens with closed | unfit
    · simp [closed] at opened
    · exact unfit fits
  · refine State.changeAlign_of_cut chg set frames coincident ?_
    rw [record, Cut.qualifies_iff _ countA countB figures]
    exact ⟨opened, fits⟩
  · rw [State.changeSettle_of_some chg]
    exact if_neg (by omega)
  · obtain ⟨l, l', e⟩ := State.changeSettle_last chg last ready reselect set unpaid
    have fresh (k : SlotNo) : (s.completing i c su.profile.audioLevel l).isReselect k = false := by
      have pending : (s.completing i c su.profile.audioLevel l).isReselect k =
        decide (c.reselect.bind (·.slot) = some k) := rfl
      rw [pending, reselect]
      rfl
    obtain ⟨mine, others⟩ := State.slot_of_modSlot (s := s) (i := i) (f := fun sl => { sl with state := .active })
      (t := s.completing i c su.profile.audioLevel l) rfl
    obtain ⟨slots, l'', shed⟩ := State.flagShed_eq (s := s.completing i c su.profile.audioLevel l) (source := c.fromSlot)
      (i := i) fresh permit sync
    have slot (j : SlotNo) : (s.changeSettle i).slot j =
        ((s.completing i c su.profile.audioLevel l).flagShed c.fromSlot i).slot j := by
      rw [e]
      rfl
    refine ⟨?_, ?_, fun j other => ⟨fun stays => ?_, fun sheds work => ?_, fun sheds ctrl out ready' ks set' => ?_⟩, ?_⟩
    · rw [e, shed, ← record, ← State.bit_lineNow]
      rfl
    · rw [slot, State.flagShed_slot_of_not fresh fun h => h.other rfl, mine]
    · rw [slot, State.flagShed_slot_of_not fresh fun h => stays (State.completing_sheds.mp h), others j other]
    · rw [slot, State.flagShed_slot_busy fresh (State.completing_sheds.mpr sheds) work, others j other]
    · rw [slot, State.flagShed_slot_idle fresh (State.completing_sheds.mpr sheds) ctrl out (by rw [others j other]; exact ready')
        (fun aims => other (Option.some.inj (aims.symm.trans target))) (by rw [others j other]; exact set'), others j other]
      rfl
    · rw [e, shed]
      exact ⟨rfl, rfl, rfl, rfl, rfl, rfl, rfl, rfl, rfl⟩

end Sys2Proof.Machine

/-! The Harness Tester: the tester asked for and handed on, a pattern's readback, and the end of a test (R164 to R168). -/

namespace Sys2Proof.Machine

/-! ## The tester (R164, R165) -/

theorem State.handTester_of_idle {s : State} (h : s.tester.run ≠ none ∨ s.tester.wait = []) : s.handTester = s := by
  unfold State.handTester
  split
  next free wait =>
    rcases h with busy | empty
    · exact absurd free busy
    · rw [empty] at wait
      cases wait
  next => rfl

theorem State.handTester_of_head {s : State} {i : SlotNo} {rest : List SlotNo} (free : s.tester.run = none)
    (wait : s.tester.wait = i :: rest) :
    s.handTester =
      if s.harnessRefused i = true then
        State.push { s with tester := { s.tester with wait := rest } } [.stepEnd i .inUse none, .tester]
      else State.beginTest { s with tester := { s.tester with wait := rest } } i := by
  unfold State.handTester
  rw [free, wait]
  rfl

/-- The record of a test that begins (R165). -/
def TestRecord.fresh (i : SlotNo) (seed : Lines) (count : Nat) : TestRecord :=
  { slot := i, seed := seed, count := count, done := 0, signature := 0, cannotAssert := Vector.replicate 24 0
    heldAsserted := Vector.replicate 24 0, verdict := none }

theorem State.beginTest_eq {s : State} {i : SlotNo} {seed : Lines} {count : Nat}
    (step : (s.queue i).step = some (.harness seed count)) (idle : (s.slot i).state ≠ .testing) :
    s.beginTest i =
      (State.notice
        { s.modSlot i fun x => { x with state := .testing, testReturn := some (s.slot i).state } with
          tester :=
            { run := some { slot := i, pattern := seed, ends := s.now + 96000 }, wait := s.tester.wait
              record := some (TestRecord.fresh i seed count) } }
        (.slot i) [byteOf i.val, 9, if (s.slot i).power then 1 else 0, faultCode (s.slot i).lastFault]).push
          [.heldCheck i] := by
  have named : s.harnessStep i = some (seed, count) := by rw [State.harnessStep, step]
  unfold State.beginTest
  rw [named]
  dsimp only
  generalize tested : s.modTester _ = t
  have same : t.slot i = s.slot i := by rw [← tested]; rfl
  have moved : (t.modSlot i fun sl => { sl with testReturn := some sl.state }).modSlot i (fun sl =>
      { sl with state := .testing }) =
      t.modSlot i fun sl => { sl with state := .testing, testReturn := some (s.slot i).state } := by
    rw [State.modSlot_modSlot]
    exact State.modSlot_congr (by rw [same])
  rw [State.setState_of_ne (by simpa [same] using idle), State.slotNotice, moved]
  have body : State.slotNoticeBody (t.modSlot i fun sl =>
      { sl with state := .testing, testReturn := some (s.slot i).state }) i =
      [byteOf i.val, 9, if (s.slot i).power then 1 else 0, faultCode (s.slot i).lastFault] := by
    unfold State.slotNoticeBody
    rw [State.modSlot_slot_self, same]
    cases (s.slot i).power <;> rfl
  rw [body, ← tested]
  rfl

/-! ## The readback of a pattern (R167) -/

theorem raiseCounts_getElem (counts : Vector Nat 24) (l : Lines) (n : LineNo) :
    (raiseCounts counts l)[n.val] = counts[n.val] + if l.getLsbD n.val = true then 1 else 0 := by
  rw [raiseCounts, perLine_getElem]
  rfl

/-- A line of one set that is not in another. -/
theorem and_not_getLsbD (a b : Lines) (n : LineNo) :
    (a &&& ~~~b).getLsbD n.val = true ↔ a.getLsbD n.val = true ∧ b.getLsbD n.val = false := by
  have line := n.isLt
  simp [line]

theorem allZero_iff (v : Vector Nat 24) : v.toList.all (· == 0) = true ↔ ∀ n : LineNo, v[n.val] = 0 := by
  simp only [List.all_eq_true, beq_iff_eq]
  refine ⟨fun h n => h _ (by simp), fun h x mem => ?_⟩
  obtain ⟨n, line, e⟩ := List.mem_iff_getElem.mp mem
  rw [← e]
  simpa using h ⟨n, by simpa using line⟩

/-- The verdict of a record (R168). -/
theorem TestRecord.judge_spec (r : TestRecord) :
    (r.judge = .pass ↔ ∀ n : LineNo, r.cannotAssert[n.val] = 0 ∧ r.heldAsserted[n.val] = 0) ∧
      (r.judge = .pass ∨ r.judge = .fail) := by
  unfold TestRecord.judge
  rw [forall_and, ← allZero_iff, ← allZero_iff, ← Bool.and_eq_true]
  split
  next zero => exact ⟨iff_of_true rfl zero, .inl rfl⟩
  next some => exact ⟨iff_of_false (by decide) some, .inr rfl⟩

theorem readLines_eq (p : Polarity) (senses : Lines) :
    readLines p senses = if p = .lowAssert then ~~~senses else senses := by
  cases p <;> rfl

section
variable {s : State} {r : TestRun} {senses : Lines} {su : Setup} {before : TestRecord}

/-- With patterns left the next is driven. -/
theorem State.patternEnds_more (set : (s.slot r.slot).setup = some su) (record : s.tester.record = some before)
    (more : before.done + 1 < before.count) :
    s.patternEnds r senses = { s with tester := { s.tester with
      run := some { r with pattern := nextPattern r.pattern, ends := s.now + 96000 }
      record := some (before.read r.pattern (readLines su.profile.polarity senses)) } } := by
  unfold State.patternEnds
  rw [State.profile_of_setup set, record]
  exact if_pos more

/-- At the last pattern the test ends, and its slot goes back to its test return state. -/
theorem State.patternEnds_last (set : (s.slot r.slot).setup = some su) (record : s.tester.record = some before)
    (last : before.count ≤ before.done + 1) (plain : (s.slot r.slot).faultAtEnd = false) {st : SlotState}
    (back : (s.slot r.slot).testReturn = some st) {after : TestRecord}
    (read : before.read r.pattern (readLines su.profile.polarity senses) = after) :
    ∃ l, s.patternEnds r senses =
      State.push { s.modSlot r.slot fun sl => { sl with state := st, testReturn := none } with
        tester := { s.tester with run := none, record := some { after with verdict := some after.judge } }, link := l }
        [.heldCheck r.slot, .stepEnd r.slot (if after.judge = .pass then .ok else .harnessFail) none, .tester] := by
  obtain ⟨l, e⟩ := State.setState_change (State.freeTester { s with tester := { s.tester with record := some after } }
    after.judge) r.slot (fun sl => { sl with testReturn := none }) st
  refine ⟨l, ?_⟩
  unfold State.patternEnds
  rw [State.profile_of_setup set, record]
  dsimp only
  rw [read]
  refine (if_neg ?_).trans ?_
  · rw [← read]
    exact Nat.not_lt.mpr last
  · refine congrArg (fun t : State => t.push _) ?_
    refine (State.leaveTesting_eq (by exact plain) (by exact back)).trans (e.trans rfl)

end

theorem exec_harnessPatternEnd {dt : Nat} {senses : Lines} {s : State} {r : TestRun} (h : s.Between)
    (run : s.tester.run = some r) :
    exec (.harnessPatternEnd dt senses) s = .next (((s.advance dt).reach r.ends).patternEnds r senses).finish := by
  unfold exec execHarnessPatternEnd
  refine (live_of_between dt _ s h).trans (congrArg (fun t : State => Host.Outcome.next t.finish) ?_)
  have run' : (s.advance dt).tester.run = some r := run
  rw [run']

/-- Settles O60. -/
theorem harnessPatternReadBack : Obligations.HarnessPatternReadBack := by
  refine ⟨fun s i seed count => ?_, fun dt senses s h => ⟨fun idle => ?_, fun r su before running set record => ?_⟩⟩
  · intro busy refused begun
    have refused_iff : s.harnessRefused i = true ↔ refused := by simpa [refused] using s.harnessRefused_iff i
    refine ⟨fun asked => ?_, State.handTester_of_idle, fun rest free wait no => ?_,
      fun step idle => ⟨fun free => ?_, fun rest free wait yes => ?_⟩⟩
    · refine if_neg ?_
      rw [Bool.and_eq_true, Option.isNone_iff_eq_none, List.isEmpty_iff, not_and_or]
      exact asked
    · exact (State.handTester_of_head free wait).trans (if_pos (refused_iff.mpr no))
    · obtain ⟨none, empty⟩ := not_or.mp free
      rw [not_not] at none empty
      refine (if_pos (by simp [none, empty])).trans ((State.beginTest_eq step idle).trans ?_)
      rw [empty]
      rfl
    · refine (State.handTester_of_head free wait).trans ((if_neg fun no => yes (refused_iff.mp no)).trans ?_)
      exact State.beginTest_eq (s := { s with tester := { s.tester with wait := rest } }) step idle
  · unfold exec execHarnessPatternEnd
    refine live_of_bare h ?_ h.1
    have idle' : (s.advance dt).tester.run = none := idle
    rw [idle']
  · intro now back value shifted
    have read : readLines su.profile.polarity senses = back := readLines_eq ..
    refine ⟨before.read r.pattern back, rfl, fun n => ⟨?_, ?_⟩, fun more => ?_, fun last plain st testReturn => ?_⟩
    · refine (raiseCounts_getElem _ _ n).trans (congrArg _ (if_congr (and_not_getLsbD ..) rfl rfl))
    · refine (raiseCounts_getElem _ _ n).trans (congrArg _ (if_congr ((and_not_getLsbD ..).trans and_comm) rfl rfl))
    · rw [exec_harnessPatternEnd h running,
        State.patternEnds_more (s := (s.advance dt).reach r.ends) (by exact set) (by exact record) more, read]
      exact congrArg Host.Outcome.next (State.finish_of_no_task _ h.1)
    · obtain ⟨l, e⟩ := State.patternEnds_last (s := (s.advance dt).reach r.ends) (senses := senses) (by exact set)
        (by exact record) last (by exact plain) (by exact testReturn) rfl
      rw [read] at e
      obtain ⟨pass, verdict⟩ := (before.read r.pattern back).judge_spec
      refine ⟨_, _, (exec_harnessPatternEnd h running).trans (congrArg (fun t : State => Host.Outcome.next t.finish) e), pass,
        verdict, rfl, ?_, ?_, rfl, rfl⟩
      · exact (State.slot_of_modSlot (s := (s.advance dt).reach r.ends)
          (f := fun sl => { sl with state := st, testReturn := none }) (by rfl)).1
      · exact (State.slot_of_modSlot (s := (s.advance dt).reach r.ends)
          (f := fun sl => { sl with state := st, testReturn := none }) (by rfl)).2

end Sys2Proof.Machine

/-! PREPARE and RECLASS: their beginnings, the prepare entry and its outcome, and the return to PREPARE (R37, R96 to R100,
R106). -/

namespace Sys2Proof.Machine

/-! ## The steps of a prepare entry (R37) -/

theorem stepsFor_spec (st : SlotState) (power probed : Bool) : StepsFor st power (stepsFor st power probed) := by
  unfold StepsFor
  cases st <;> cases power <;> simp [stepsFor]

theorem Slot.prepareSteps_preparedBy (sl : Slot) : sl.PreparedBy sl.prepareSteps := by
  unfold Slot.PreparedBy Slot.prepareSteps
  refine ⟨fun other => ?_, fun st testing back => ⟨?_, fun ready probed => ?_⟩⟩
  · rw [if_neg other]
    exact stepsFor_spec ..
  · rw [if_pos testing, back]
    exact stepsFor_spec ..
  · rw [if_pos testing, back, ready, Option.isSome_iff_ne_none.mpr probed]
    rfl

/-- The prepare entry placed for a slot (R37). -/
def Slot.prepareEntry (sl : Slot) : Entry :=
  { kind := .prepare, steps := sl.prepareSteps, done := 0, waiver := false, marked := false }

theorem State.placePrepare_of_none {s : State} {i : SlotNo} (out : (s.queue i).out = none) :
    s.placePrepare i =
      (s.modQueue i fun q => { q with out := some (s.slot i).prepareEntry }).push [.turn i] := by
  unfold State.placePrepare
  refine congrArg (fun t : State => t.push [.turn i]) (State.modQueue_congr ?_)
  rw [out]
  rfl

/-! ## RECLASS (R97, R99, R100) -/

theorem State.after_eq (s : State) (n : Nat) : s.after n = s.now + n * 48000 := rfl

/-- The record in RECLASS, for a class to set or the class that stands. -/
def Change.reclassed (c : Change) (p : ProbeRecord) (settle : Nat) (same : Bool) : Change :=
  { c with
    stage := .reclass, prepareTimer := none, targetProbe := some p, settle := settle
    starts := if same then some 0 else none }

section
variable {s : State} {c : Change} {i : SlotNo} {p : ProbeRecord} {d : Derived}

theorem State.startReclass_accepted (chg : s.chg = some c) (probe : (s.slot i).lastProbe = some p)
    (figures : p.derived = some d) (accepted : s.settings.accept d = true) :
    s.startReclass i =
      { s with
        chg := some (c.reclassed p s.settings.settle (decide (d.cls = s.out.classOut)))
        out := { s.out with timing := { ticks := d.lineTicks, lines := d.frameLines }, classOut := d.cls }
        classDeadline :=
          if d.cls = s.out.classOut then s.classDeadline else s.now + s.settings.settle * 48000 } := by
  unfold State.startReclass
  rw [probe]
  dsimp only
  rw [State.modChange_of_some chg, figures]
  refine (if_pos (by exact accepted)).trans ?_
  unfold State.reclassify
  by_cases same : d.cls = s.out.classOut
  · rw [if_pos (by exact same), if_pos same]
    simp [State.modChange, State.programBridge, State.modOut, Change.reclassed, same]
  · rw [if_neg (by exact same), if_neg same]
    simp [State.programBridge, State.modOut, Change.reclassed, same, State.after_eq]

theorem State.startReclass_rejected (chg : s.chg = some c) (probe : (s.slot i).lastProbe = some p)
    (figures : p.derived = some d) (rejected : ¬ s.settings.accept d = true) :
    s.startReclass i =
      State.failChange { s with chg := some (c.reclassed p s.settings.settle false) } .monitorRejects .ok := by
  unfold State.startReclass
  rw [probe]
  dsimp only
  rw [State.modChange_of_some chg, figures]
  exact if_neg (by exact rejected)

end

/-! ## PREPARE (R96) -/

/-- The record at the beginning of PREPARE. -/
def Change.prepared (c : Change) (timeout now : Nat) : Change :=
  { c with
    stage := .prepare, cut := Cut.none, timeout := timeout, targetProbe := none, starts := none
    prepareTimer := some (now + timeout * 48000000) }

section
variable {s : State} {c : Change} {i : SlotNo}

theorem State.startPrepare_eq (chg : s.chg = some c) (out : (s.queue i).out = none) {t : State}
    (begun : { s with chg := some (c.prepared s.settings.timeout s.now) } = t) :
    s.startPrepare i = if (s.slot i).measured = true then t.startReclass i else t.placePrepare i := by
  have timer : s.after (1000 * s.settings.timeout) = s.now + s.settings.timeout * 48000000 := by
    rw [State.after_eq]
    omega
  unfold State.startPrepare
  rw [State.modChange_of_some chg, timer]
  subst begun
  refine (if_neg ?_).trans rfl
  have none : Queue.hasRestart (s.queue i) = false := by rw [Queue.hasRestart, out]
  rw [Bool.not_eq_true]
  exact none

theorem Slot.measured_iff (sl : Slot) : sl.measured = true ↔ sl.state = .ready ∧ sl.lastProbe ≠ none := by
  simp [Slot.measured, Option.isSome_iff_ne_none]

/-- A slot out of READY is prepared by an entry. -/
theorem State.startPrepare_placed (chg : s.chg = some c) (out : (s.queue i).out = none)
    (other : (s.slot i).state ≠ .ready) :
    s.startPrepare i =
      (State.modQueue { s with chg := some (c.prepared s.settings.timeout s.now) } i fun q =>
        { q with out := some (s.slot i).prepareEntry }).push [.turn i] := by
  rw [State.startPrepare_eq chg out rfl, if_neg fun measured => other ((Slot.measured_iff _).mp measured).1]
  exact State.placePrepare_of_none out

/-- A READY slot with a last probe needs no entry. -/
theorem State.startPrepare_measured (chg : s.chg = some c) (out : (s.queue i).out = none)
    (ready : (s.slot i).state = .ready) (probed : (s.slot i).lastProbe ≠ none) :
    s.startPrepare i = State.startReclass { s with chg := some (c.prepared s.settings.timeout s.now) } i := by
  rw [State.startPrepare_eq chg out rfl, if_pos ((Slot.measured_iff _).mpr ⟨ready, probed⟩)]

end

end Sys2Proof.Machine

/-! Retarget and reselect, the end of a prepare entry, and the return to PREPARE (R37, R38, R97, R106, R110 to R112). -/

namespace Sys2Proof.Machine

/-! ## The link after messages, and records that messages do not read -/

theorem State.complete_link_congr {s t : State} (h : s.link = t.link) (tag : Byte) (body : List Byte) :
    (s.complete tag body).link = (t.complete tag body).link := by
  unfold State.complete
  rw [h]
  dsimp only
  split <;> simp [State.enqueue, State.modLink, h]

theorem State.complete_with (s : State) (o : Output) (x : Option Change) (tag : Byte) (body : List Byte) :
    State.complete { s with out := o, chg := x } tag body = { s.complete tag body with out := o, chg := x } := by
  unfold State.complete
  dsimp only
  rw [apply_ite (fun t : State => ({ t with out := o, chg := x } : State))]
  rfl

theorem State.releaseHeld_link_congr {s t : State} (h : s.link = t.link) : s.releaseHeld.link = t.releaseHeld.link := by
  unfold State.releaseHeld
  rw [h]
  split
  · simp [State.enqueue, State.modLink, h]
  · exact h

theorem State.placeFreed_link_congr {s t : State} (h : s.link = t.link) (waiting : t.link.waiting = none) :
    s.placeFreed.link = t.placeFreed.link := by
  unfold State.placeFreed
  rw [h, waiting]
  split
  · exact State.releaseHeld_link_congr h
  · exact h

/-- With no request waiting, what begins on the line depends on the link alone. -/
theorem State.beginMessage_link_congr {s t : State} (h : s.link = t.link) (waiting : t.link.waiting = none) :
    s.beginMessage.link = t.beginMessage.link := by
  have line (u : Message) (rest : List Message) :
      (s.modLink fun l => { l with sending := some u, txq := rest }).link =
        (t.modLink fun l => { l with sending := some u, txq := rest }).link := by
    simp [State.modLink, h]
  unfold State.beginMessage
  rw [h]
  split
  next m rest _ _ =>
    dsimp only
    split
    · exact State.placeFreed_link_congr (line m rest) waiting
    · exact line m rest
  next => exact h

/-! ## The target replaced (R110, R111) -/

/-- The state in which a SELECT has taken the place of the record's, before the stage goes on. -/
def State.replaced (s : State) (c : Change) (sel : Selection) : State :=
  State.clearShed { (s.complete c.tag (selectCompletion c.toSlot .superseded .ok)).removeTargetEntry c.toSlot with
    chg := some { c with toSlot := sel.slot, tag := sel.tag, targetProbe := none } } sel.slot

section
variable {s : State} {c : Change} {sel : Selection}

theorem State.retarget_begun (chg : s.chg = some c) :
    s.retarget sel =
      (if c.stage = .fade ∨ c.stage = .bridge then s.replaced c sel
        else
          match sel.slot with
          | none => (s.replaced c sel).endAtNone
          | some i => (s.replaced c sel).startPrepare i).push (releasedTasks c.toSlot) := by
  have removed : ((s.complete c.tag (selectCompletion c.toSlot .superseded .ok)).removeTargetEntry c.toSlot).chg = some c := by
    simp [chg]
  unfold State.retarget
  rw [chg]
  dsimp only
  rw [State.completeSelect, State.modChange_of_some removed]
  rfl

theorem State.retarget_early (chg : s.chg = some c) (early : c.stage = .fade ∨ c.stage = .bridge) :
    s.retarget sel = (s.replaced c sel).push (releasedTasks c.toSlot) := by
  rw [State.retarget_begun chg, if_pos early]

theorem State.retarget_none (chg : s.chg = some c) (late : ¬ (c.stage = .fade ∨ c.stage = .bridge))
    (none : sel.slot = none) : s.retarget sel = (s.replaced c sel).endAtNone.push (releasedTasks c.toSlot) := by
  rw [State.retarget_begun chg, if_neg late, none]

theorem State.retarget_some (chg : s.chg = some c) (late : ¬ (c.stage = .fade ∨ c.stage = .bridge)) {j : SlotNo}
    (target : sel.slot = some j) :
    s.retarget sel = ((s.replaced c sel).startPrepare j).push (releasedTasks c.toSlot) := by
  rw [State.retarget_begun chg, if_neg late, target]

/-- A replacement changes the record of the new target, the queue of the old, and the link. -/
theorem State.replaced_eq :
    ∃ queues, s.replaced c sel =
      { s.clearShed sel.slot with
        queues := queues, chg := some { c with toSlot := sel.slot, tag := sel.tag, targetProbe := none }
        link := (s.complete c.tag (selectCompletion c.toSlot .superseded .ok)).link } := by
  obtain ⟨l, completed⟩ : ∃ l, s.complete c.tag (selectCompletion c.toSlot .superseded .ok) = { s with link := l } :=
    ⟨_, State.complete_eq ..⟩
  rw [State.replaced, completed]
  obtain ⟨queues, removed⟩ : ∃ queues, State.removeTargetEntry { s with link := l } c.toSlot =
      { s with link := l, queues := queues } := ⟨_, State.removeTargetEntry_eq ..⟩
  refine ⟨queues, ?_⟩
  rw [removed]
  cases sel.slot <;> rfl

theorem State.clearShed_slot (s : State) (x : Option SlotNo) :
    (∀ j, x = some j → (s.clearShed x).slot j = { s.slot j with shedPending := false }) ∧
      ∀ j, x ≠ some j → (s.clearShed x).slot j = s.slot j := by
  cases x with
  | none => exact ⟨fun _ e => (nomatch e), fun _ _ => rfl⟩
  | some k =>
    refine ⟨fun j e => ?_, fun j other => ?_⟩
    · cases e
      exact State.modSlot_slot_self ..
    · exact State.modSlot_slot_of_ne _ (fun e => other (congrArg some e)) _

theorem State.clearShed_fields (s : State) (x : Option SlotNo) :
    ∃ slots, s.clearShed x = { s with slots := slots } := by
  cases x <;> exact ⟨_, rfl⟩

/-- What a replacement leaves (R110, R111). -/
structure State.Replaced (s t : State) (c : Change) (sel : Selection) : Prop where
  now : t.now = s.now
  target : ∀ j, sel.slot = some j → t.slot j = { s.slot j with shedPending := false }
  others : ∀ j, sel.slot ≠ some j → t.slot j = s.slot j
  chg : t.chg = some { c with toSlot := sel.slot, tag := sel.tag, targetProbe := none }
  out : t.out = s.out
  supply : t.supply = s.supply
  coin : t.coin = s.coin
  settings : t.settings = s.settings
  deadline : t.classDeadline = s.classDeadline
  sampler : t.sampler = s.sampler
  todo : t.todo = s.todo
  link : t.link = (s.complete c.tag (selectCompletion c.toSlot .superseded .ok)).link

theorem State.replaced_spec : s.Replaced (s.replaced c sel) c sel := by
  obtain ⟨queues, e⟩ := State.replaced_eq (s := s) (c := c) (sel := sel)
  obtain ⟨cleared, kept⟩ := s.clearShed_slot sel.slot
  obtain ⟨slots, fields⟩ := s.clearShed_fields sel.slot
  have same (j : SlotNo) : (s.replaced c sel).slot j = (s.clearShed sel.slot).slot j := by rw [e]; rfl
  refine ⟨?_, fun j target => (same j).trans (cleared j target), fun j other => (same j).trans (kept j other), ?_, ?_, ?_, ?_, ?_,
    ?_, ?_, ?_, ?_⟩
  all_goals rw [e, fields]

end

/-- The queues where the old target's prepare entry runs or there is none (R38). -/
def Queue.unprepared (q : Queue) : Queue := { q with out := q.out.map fun e => { e with marked := true } }

/-- A slot that has no work, or whose prepare entry runs. -/
def Queue.Preparing (q : Queue) : Prop :=
  q.ctrl = [] ∧ q.out = none ∧ q.running = none ∨ ∃ e, q.out = some e ∧ e.kind = .prepare ∧ q.running = some .output

theorem State.removePrepare_of_preparing {s : State} {i : SlotNo} (h : (s.queue i).Preparing) :
    s.removePrepare i = s.modQueue i Queue.unprepared := by
  rcases h with ⟨-, out, -⟩ | ⟨e, out, kind, runs⟩
  · rw [State.removePrepare_of_none out]
    exact (State.modQueue_self (by rw [Queue.unprepared, out, Option.map_none, ← out])).symm
  · rw [State.removePrepare_of_running out kind runs]
    exact State.modQueue_congr (by rw [Queue.unprepared, out]; rfl)

theorem State.replaced_queue {s : State} {c : Change} {sel : Selection}
    (preparing : ∀ k, c.toSlot = some k → (s.queue k).Preparing) (k : SlotNo) :
    (s.replaced c sel).queue k = if c.toSlot = some k then (s.queue k).unprepared else s.queue k := by
  have queue : (s.replaced c sel).queue k =
      ((s.complete c.tag (selectCompletion c.toSlot .superseded .ok)).removeTargetEntry c.toSlot).queue k := by
    obtain ⟨slots, fields⟩ := State.clearShed_fields
      { (s.complete c.tag (selectCompletion c.toSlot .superseded .ok)).removeTargetEntry c.toSlot with
        chg := some { c with toSlot := sel.slot, tag := sel.tag, targetProbe := none } } sel.slot
    rw [State.replaced, fields]
    rfl
  rw [queue]
  have same (j : SlotNo) : (s.complete c.tag (selectCompletion c.toSlot .superseded .ok)).queue j = s.queue j :=
    State.queue_of_queues (by simp) j
  cases target : c.toSlot with
  | none =>
    rw [target] at same
    rw [if_neg (by simp)]
    exact same k
  | some i =>
    rw [target] at same
    rw [State.removeTargetEntry, State.removePrepare_of_preparing (by rw [same]; exact preparing i target)]
    by_cases mine : i = k
    · subst mine
      rw [State.modQueue_queue_self, if_pos rfl, same]
    · rw [State.modQueue_queue_of_ne _ mine, if_neg (by simpa using mine), same]

/-- A replaced target without an entry leaves every queue as it is. -/
theorem State.replaced_queues {s : State} {c : Change} {sel : Selection}
    (empty : ∀ k, c.toSlot = some k → (s.queue k).out = none) : (s.replaced c sel).queues = s.queues := by
  have removed : (s.complete c.tag (selectCompletion c.toSlot .superseded .ok)).removeTargetEntry c.toSlot =
      s.complete c.tag (selectCompletion c.toSlot .superseded .ok) := by
    cases target : c.toSlot with
    | none => rfl
    | some i => exact State.removePrepare_of_none (by simpa using empty i target)
  rw [State.replaced, removed]
  cases sel.slot <;> simp [State.clearShed]

/-- The slot that is no longer the target is settled where it was preparing. -/
theorem Queue.Preparing.settled {q : Queue} (h : q.Preparing) :
    q.unprepared.running ≠ none ∨ q.unprepared.ctrl = [] ∧ q.unprepared.out = none := by
  rcases h with ⟨ctrl, out, -⟩ | ⟨e, -, -, runs⟩
  · exact .inr ⟨ctrl, by rw [Queue.unprepared, out]; rfl⟩
  · exact .inl (by rw [Queue.unprepared, runs]; simp)

/-! ## An accepted SELECT in a changeover (R89) -/

theorem State.acceptSelect_of_cut {s : State} {c : Change} {sel : Selection} (chg : s.chg = some c)
    (cut : c.stage = .align ∨ c.stage = .settle) : s.acceptSelect sel = s.storeReselect sel := by
  unfold State.acceptSelect
  rw [chg]
  dsimp only
  rcases cut with stage | stage <;> rw [stage]

theorem State.acceptSelect_of_open {s : State} {c : Change} {sel : Selection} (chg : s.chg = some c)
    (align : c.stage ≠ .align) (settle : c.stage ≠ .settle) : s.acceptSelect sel = s.retarget sel := by
  unfold State.acceptSelect
  rw [chg]
  dsimp only
  cases stage : c.stage
  case align => exact absurd stage align
  case settle => exact absurd stage settle
  all_goals rfl

end Sys2Proof.Machine

/-! SELECT during a changeover, a prepare entry's end and outcome, and the return to PREPARE. -/

namespace Sys2Proof.Machine

/-! ## SELECT in a changeover (R110 to R112) -/

theorem State.Settled.of_fields {s t : State} {i : SlotNo} (h : s.Settled i) (slots : t.slots = s.slots)
    (queue : t.queue i = s.queue i) : t.Settled i :=
  ⟨by rw [State.slot_of_slots slots, queue]; exact h.unshed, by rw [queue]; exact h.runs⟩

theorem State.takeSelect_changing {s : State} {c : Change} {tag slot : Byte} {sel : Option SlotNo}
    (names : slot = 8 ∧ sel = none ∨ ∃ i : SlotNo, i.val = slot.toNat ∧ sel = some i) (tagged : tag ≠ 0)
    (configured : ∀ j, sel = some j → (s.slot j).state ≠ .unconfigured) (changing : s.out.mode = .changing)
    (chg : s.chg = some c) (other : c.toSlot ≠ sel) (fresh : ∀ r, c.reselect = some r → r.slot ≠ sel) :
    s.takeSelect tag slot = (s.reply 0x0C tag [1]).acceptSelect { slot := sel, tag := tag } := by
  refine State.takeSelect_of_accepted names tagged configured fun already => ?_
  rcases (s.selectAlready_iff sel).mp already with ⟨dark, -⟩ | ⟨shown, -⟩ | ⟨-, c', chg', same⟩
  · simp [changing] at dark
  · simp [changing] at shown
  · cases chg.symm.trans chg'
    rcases same with target | ⟨r, pending, e⟩
    · exact other target
    · exact fresh r pending e

theorem State.storeReselect_first {s : State} {c : Change} (chg : s.chg = some c) (none : c.reselect = none)
    (sel : Selection) : s.storeReselect sel = { s with chg := some { c with reselect := some sel } } := by
  unfold State.storeReselect
  rw [chg]
  dsimp only
  rw [none]
  exact State.modChange_of_some chg _

theorem State.storeReselect_again {s : State} {c : Change} {r : Selection} (chg : s.chg = some c)
    (pending : c.reselect = some r) (sel : Selection) :
    s.storeReselect sel =
      { s.complete r.tag (selectCompletion r.slot .superseded .ok) with
        chg := some { c with reselect := some sel } } := by
  unfold State.storeReselect
  rw [chg]
  dsimp only
  rw [pending]
  exact State.modChange_of_some (by simpa [State.completeSelect] using chg) _

theorem run_released_turn {s : State} {x : Option SlotNo} {j : SlotNo} (todo : s.todo = [])
    (settled : ∀ i, x = some i → s.Settled i) (runs : (s.queue j).running ≠ none) :
    run 4096 (s.push (releasedTasks x ++ [.turn j])) = run 0 s := by
  have turn (n : Nat) : run (n + 1) (s.push [.turn j]) = s :=
    (run_task (x := .turn j) (State.turn_of_running (s := s.push []) runs)).trans (run_of_no_task _ _ todo)
  cases x with
  | none => exact turn 4095
  | some i => exact (run_released_some (settled i rfl) [.turn j]).trans (turn 4093)

section
variable {s : State} {c : Change} {sel : Selection}

/-- The old target, without work or with its prepare entry running, is settled once it is replaced. -/
theorem State.Replaced.settled {t : State} (h : s.Replaced t c sel) {i : SlotNo}
    (unshed : (s.slot i).shedPending = false) (preparing : (s.queue i).Preparing)
    (queue : t.queue i = (s.queue i).unprepared) : t.Settled i := by
  refine ⟨.inl ?_, ?_⟩
  · by_cases same : sel.slot = some i
    · rw [h.target i same]
    · rw [h.others i same]
      exact unshed
  · rw [queue]
    exact preparing.settled

end

/-- SELECT's four effects in a changeover, with the request taken (R110 to R112). -/
theorem exec_select_changing {dt : Nat} {tag slot : Byte} {sel : Option SlotNo} {c : Change} {s t : State}
    (h : s.TakesRequests) (names : slot = 8 ∧ sel = none ∨ ∃ i : SlotNo, i.val = slot.toNat ∧ sel = some i)
    (tagged : tag ≠ 0) (configured : ∀ j, sel = some j → (s.slot j).state ≠ .unconfigured)
    (changing : s.out.mode = .changing) (chg : s.chg = some c) (other : c.toSlot ≠ sel)
    (fresh : ∀ r, c.reselect = some r → r.slot ≠ sel) {n : Nat}
    (ends : run 4096 (((s.received dt).reply 0x0C tag [1]).acceptSelect { slot := sel, tag := tag }) = run n t)
    (done : t.todo = []) : exec (.select dt tag slot) s = .next t.beginMessage :=
  request_of_run h
    (State.takeSelect_changing (s := s.received dt) names tagged configured changing chg other fresh) ends done

section
variable {s : State} {c : Change} {sel : Selection}

/-- A replacement in FADE or BRIDGE: the stage goes on (R110). -/
theorem run_retarget_early {n : Nat} (chg : s.chg = some c) (early : c.stage = .fade ∨ c.stage = .bridge)
    (todo : s.todo = []) (unshed : ∀ k, c.toSlot = some k → (s.slot k).shedPending = false)
    (preparing : ∀ k, c.toSlot = some k → (s.queue k).Preparing) :
    run (n + 2) (s.retarget sel) = run n (s.replaced c sel) := by
  have left := State.replaced_spec (s := s) (c := c) (sel := sel)
  rw [State.retarget_early chg early]
  exact run_released (left.todo.trans todo) fun i target => left.settled (unshed i target) (preparing i target)
    ((State.replaced_queue preparing i).trans (if_pos target))

/-- A replacement by NONE in PREPARE or RECLASS ends the changeover in DARK (R111). -/
theorem run_retarget_none {n : Nat} (chg : s.chg = some c) (late : c.stage = .prepare ∨ c.stage = .reclass)
    (unnamed : sel.slot = none) (source : s.out.source = none) (todo : s.todo = [])
    (unshed : ∀ k, c.toSlot = some k → (s.slot k).shedPending = false)
    (preparing : ∀ k, c.toSlot = some k → (s.queue k).Preparing) :
    run (n + 2) (s.retarget sel) =
      run n ((s.replaced c sel).endsDark.complete sel.tag (selectCompletion none .ok .ok)) := by
  have left := State.replaced_spec (s := s) (c := c) (sel := sel)
  have not_early : ¬ (c.stage = .fade ∨ c.stage = .bridge) := by
    rcases late with stage | stage <;> simp [stage]
  rw [State.retarget_none chg not_early unnamed, State.endAtNone_of_some left.chg (by rw [left.out]; exact source)]
  refine run_released (by simp [left.todo, todo]) fun i target => ?_
  have settled := left.settled (unshed i target) (preparing i target)
    ((State.replaced_queue preparing i).trans (if_pos target))
  have slot := State.slot_of_slots (t := (s.replaced c sel).endsDark.complete sel.tag (selectCompletion none .ok .ok))
    (s := s.replaced c sel) (by simp) i
  have queue := State.queue_of_queues (t := (s.replaced c sel).endsDark.complete sel.tag (selectCompletion none .ok .ok))
    (s := s.replaced c sel) (by simp) i
  exact ⟨by rw [slot, queue]; exact settled.unshed, by rw [queue]; exact settled.runs⟩

/-- A replacement by a slot out of READY in PREPARE or RECLASS places its prepare entry (R111, R37). -/
theorem run_retarget_placed {j : SlotNo} {r t : State} (chg : s.chg = some c)
    (late : c.stage = .prepare ∨ c.stage = .reclass) (target : sel.slot = some j) (other : c.toSlot ≠ some j)
    (todo : s.todo = []) (unshed : ∀ k, c.toSlot = some k → (s.slot k).shedPending = false)
    (preparing : ∀ k, c.toSlot = some k → (s.queue k).Preparing) (state : (s.slot j).state ≠ .ready)
    (out : (s.queue j).out = none) (runs : (s.queue j).running ≠ none) (replaced : s.replaced c sel = r)
    (placed : State.modQueue { r with chg := some (Change.prepared
        { c with toSlot := some j, tag := sel.tag, targetProbe := none } r.settings.timeout r.now) } j (fun q =>
      { q with out := some (r.slot j).prepareEntry }) = t) :
    run 4096 (s.retarget sel) = run 0 t ∧ t.todo = [] := by
  have left : s.Replaced r c sel := replaced ▸ State.replaced_spec
  have queue (k : SlotNo) : r.queue k = if c.toSlot = some k then (s.queue k).unprepared else s.queue k := by
    rw [← replaced]
    exact State.replaced_queue preparing k
  have not_early : ¬ (c.stage = .fade ∨ c.stage = .bridge) := by
    rcases late with stage | stage <;> simp [stage]
  have mine : r.queue j = s.queue j := (queue j).trans (if_neg other)
  have begun := State.startPrepare_placed left.chg (i := j) (by rw [mine]; exact out)
    (by rw [left.target j target]; exact state)
  rw [target, placed] at begun
  have done : t.todo = [] := by rw [← placed]; exact left.todo.trans todo
  rw [State.retarget_some chg not_early target, replaced, begun, State.push_push]
  refine ⟨run_released_turn done (fun i aimed => ?_) ?_, done⟩
  · have settled := left.settled (unshed i aimed) (preparing i aimed) ((queue i).trans (if_pos aimed))
    have apart : j ≠ i := fun e => other (e ▸ aimed)
    rw [← placed]
    exact settled.of_fields rfl (State.modQueue_queue_of_ne _ apart _)
  · rw [← placed, State.modQueue_queue_self]
    exact (congrArg Queue.running mine).trans_ne runs

/-- A replacement by a READY slot that the monitor accepts passes on to RECLASS (R111, R96). -/
theorem run_retarget_measured {n : Nat} {j : SlotNo} {p : ProbeRecord} {d : Derived} {r : State} (chg : s.chg = some c)
    (late : c.stage = .prepare ∨ c.stage = .reclass) (target : sel.slot = some j) (other : c.toSlot ≠ some j)
    (todo : s.todo = []) (unshed : ∀ k, c.toSlot = some k → (s.slot k).shedPending = false)
    (preparing : ∀ k, c.toSlot = some k → (s.queue k).Preparing) (state : (s.slot j).state = .ready)
    (probe : (s.slot j).lastProbe = some p) (figures : p.derived = some d) (accepted : s.settings.accept d = true)
    (out : (s.queue j).out = none) (replaced : s.replaced c sel = r) :
    run (n + 2) (s.retarget sel) = run n { r with
      chg := some (Change.reclassed (Change.prepared { c with toSlot := some j, tag := sel.tag, targetProbe := none }
        r.settings.timeout r.now) p r.settings.settle (decide (d.cls = r.out.classOut)))
      out := { r.out with timing := { ticks := d.lineTicks, lines := d.frameLines }, classOut := d.cls }
      classDeadline :=
        if d.cls = r.out.classOut then r.classDeadline else r.now + r.settings.settle * 48000 } := by
  have left : s.Replaced r c sel := replaced ▸ State.replaced_spec
  have queue (k : SlotNo) : r.queue k = if c.toSlot = some k then (s.queue k).unprepared else s.queue k := by
    rw [← replaced]
    exact State.replaced_queue preparing k
  have not_early : ¬ (c.stage = .fade ∨ c.stage = .bridge) := by
    rcases late with stage | stage <;> simp [stage]
  have mine : r.queue j = s.queue j := (queue j).trans (if_neg other)
  have slot := left.target j target
  have begun := State.startPrepare_measured left.chg (i := j) (by rw [mine]; exact out) (by rw [slot]; exact state)
    (by rw [slot]; simp [probe])
  rw [State.startReclass_accepted (p := p) (d := d) rfl (by exact (congrArg Slot.lastProbe slot).trans probe) figures
    (by rw [left.settings]; exact accepted), target] at begun
  rw [State.retarget_some chg not_early target, replaced, begun]
  exact run_released (left.todo.trans todo) fun i aimed =>
    (left.settled (unshed i aimed) (preparing i aimed) ((queue i).trans (if_pos aimed))).of_fields rfl rfl

end

end Sys2Proof.Machine

/-! SELECT during a changeover: the statement (R37, R38, R96 to R100, R106, R109 to R112). -/

namespace Sys2Proof.Machine

/-! ## The end of a prepare entry, and its outcome (R32, R37, R38, R97) -/

section
variable {s : State} {i : SlotNo} {e : Entry}

theorem Queue.current_of_output {q : Queue} (out : q.out = some e) (runs : q.running = some .output) :
    q.current = some e := by
  rw [Queue.current, runs]
  exact out

/-- A prepare entry that leaves its place (R37, R38). -/
theorem State.endEntry_prepare (kind : e.kind = .prepare) (r : Result) (p : Option ProbeRecord) :
    s.endEntry i .output e r p =
      (s.modQueue i fun q => { q with out := none, running := none, pauseEnd := none }).push
        (if e.marked then [.turn i] else [.prepareOutcome i r, .turn i]) := by
  unfold State.endEntry
  rw [kind]
  rfl

theorem State.stepEnds_prepare (out : (s.queue i).out = some e) (runs : (s.queue i).running = some .output)
    (kind : e.kind = .prepare) {r : Result} (last : r ≠ .ok ∨ e.marked = true ∨ e.steps.length ≤ e.done + 1)
    (p : Option ProbeRecord) :
    s.stepEnds i r p =
      (s.modQueue i fun q => { q with out := none, running := none, pauseEnd := none }).push
        (if e.marked then [.turn i] else [.prepareOutcome i r, .turn i]) := by
  have ends : e.goesOn r = false := by
    unfold Entry.goesOn Entry.after
    rcases last with failing | marked | last
    · simp [failing]
    · simp [marked]
    · simp
      intro ok _
      simp [ok]
      omega
  have after : (e.after r).kind = .prepare ∧ (e.after r).marked = e.marked := by
    unfold Entry.after
    split <;> exact ⟨kind, rfl⟩
  unfold State.stepEnds
  dsimp only
  rw [runs, Queue.current_of_output out runs]
  refine (if_neg (by simp [ends])).trans ?_
  rw [State.endEntry_prepare after.1, after.2]

/-- An entry without a step ends OK on a READY slot with a last probe (log 15). -/
theorem State.beginStep_bare (out : (s.queue i).out = some e) (runs : (s.queue i).running = some .output)
    (kind : e.kind = .prepare) (steps : e.steps = []) (ready : (s.slot i).state = .ready)
    (probed : (s.slot i).lastProbe ≠ none) :
    s.beginStep i =
      (s.modQueue i fun q => { q with out := none, running := none, pauseEnd := none }).push
        (if e.marked then [.turn i] else [.prepareOutcome i .ok, .turn i]) := by
  have none : e.step = none := by simp [Entry.step, steps]
  unfold State.beginStep
  rw [Queue.current_of_output out runs]
  dsimp only
  rw [none]
  refine (if_pos ⟨kind, steps⟩).trans ((if_pos ((Slot.measured_iff _).mpr ⟨ready, probed⟩)).trans ?_)
  exact State.endEntry_prepare kind ..

/-- The outcome reaches only the PREPARE of its own target (R97). -/
theorem State.prepareOutcome_of_other {c : Change} (chg : s.chg = some c) (r : Result)
    (other : c.stage ≠ .prepare ∨ c.toSlot ≠ some i) : s.prepareOutcome i r = s := by
  unfold State.prepareOutcome
  rw [chg]
  exact if_neg fun both => other.elim (absurd both.1) (absurd both.2)

theorem State.prepareOutcome_of_target {c : Change} (chg : s.chg = some c) (r : Result) (stage : c.stage = .prepare)
    (target : c.toSlot = some i) :
    s.prepareOutcome i r = if r = .ok then s.startReclass i else s.failChange .prepareFailed r := by
  unfold State.prepareOutcome
  rw [chg]
  exact if_pos ⟨stage, target⟩

/-- A changeover that fails with a target that has no entry (R109). -/
theorem State.failChange_unprepared {c : Change} (chg : s.chg = some c) (target : c.toSlot = some i)
    (reselect : c.reselect = none) (source : s.out.source = none) (out : (s.queue i).out = none) (reason step : Result) :
    s.failChange reason step =
      (s.endsDark.complete c.tag (selectCompletion (some i) reason step)).push [.turn i, .shed i] := by
  have removed : s.endsDark.removeTargetEntry c.toSlot = s.endsDark := by
    rw [target]
    exact State.removePrepare_of_none ((congrArg Queue.out (s.endsDark_queue i)).trans out)
  rw [State.failChange_eq chg source reselect removed, target]
  rfl

end

/-! ## The return to PREPARE (R106) -/

/-- The output record with the bridge as sync source, a slot's cut undone. -/
def Output.bridged (o : Output) (now : Nat) : Output :=
  if o.sync = .bridge then o else { o with sync := .bridge, blanked := true, current := o.timing, frameStart := now }

theorem State.leaveSlotSync_bridged (s : State) : s.leaveSlotSync = { s with out := s.out.bridged s.now } := by
  unfold State.leaveSlotSync Output.bridged
  split <;> rfl

theorem Output.bridged_inDark (o : Output) (now : Nat) : (o.bridged now).inDark now = o.inDark now := by
  unfold Output.bridged
  split
  · rfl
  next slot => simp [Output.inDark, slot]

theorem Stage.afterPrepare_iff (st : Stage) :
    st.afterPrepare = true ↔ st = .reclass ∨ st = .align ∨ st = .settle := by cases st <;> simp [Stage.afterPrepare]

section
variable {s : State} {c : Change} {i : SlotNo}

theorem State.targetCheck_of_kept (chg : s.chg = some c) (target : c.toSlot = some i)
    (kept : ¬ (c.stage = .reclass ∨ c.stage = .align ∨ c.stage = .settle) ∨ (s.slot i).state = .ready) :
    s.targetCheck = s := by
  have aims : s.target = some i := by simp [State.target, chg, target]
  unfold State.targetCheck
  rw [chg, aims]
  refine if_neg fun both => ?_
  rw [Stage.afterPrepare_iff] at both
  exact kept.elim (absurd both.1) both.2

theorem State.targetCheck_of_left (chg : s.chg = some c) (target : c.toSlot = some i)
    (late : c.stage = .reclass ∨ c.stage = .align ∨ c.stage = .settle) (left : (s.slot i).state ≠ .ready) :
    s.targetCheck =
      match c.reselect with
      | none => s.leaveSlotSync.startPrepare i
      | some sel =>
        (s.leaveSlotSync.modChange fun c => { c with stage := .prepare, cut := Cut.none, reselect := none }).retarget sel := by
  have aims : s.target = some i := by simp [State.target, chg, target]
  unfold State.targetCheck
  rw [chg, aims]
  exact if_pos ⟨c.stage.afterPrepare_iff.mpr late, left⟩

/-- Without a reselect the target is prepared again. -/
theorem State.targetCheck_again (chg : s.chg = some c) (target : c.toSlot = some i)
    (late : c.stage = .reclass ∨ c.stage = .align ∨ c.stage = .settle) (left : (s.slot i).state ≠ .ready)
    (out : (s.queue i).out = none) (unasked : c.reselect = none) :
    s.targetCheck = State.push (State.modQueue { s with
      out := s.out.bridged s.now, chg := some (c.prepared s.settings.timeout s.now) } i fun q =>
        { q with out := some (s.slot i).prepareEntry }) [.turn i] := by
  rw [State.targetCheck_of_left chg target late left, unasked]
  dsimp only
  rw [State.leaveSlotSync_bridged]
  exact State.startPrepare_placed (s := { s with out := s.out.bridged s.now }) chg out left

/-- The record as it waits for its target's replacement by the pending reselect. -/
def Change.reopened (c : Change) : Change := { c with stage := .prepare, cut := Cut.none, reselect := none }

theorem State.targetCheck_reselect {sel : Selection} (chg : s.chg = some c) (target : c.toSlot = some i)
    (late : c.stage = .reclass ∨ c.stage = .align ∨ c.stage = .settle) (left : (s.slot i).state ≠ .ready)
    (asked : c.reselect = some sel) :
    s.targetCheck = State.retarget { s with out := s.out.bridged s.now, chg := some c.reopened } sel := by
  rw [State.targetCheck_of_left chg target late left, asked]
  dsimp only
  rw [State.leaveSlotSync_bridged]
  exact congrArg (fun t : State => t.retarget sel)
    (State.modChange_of_some (s := { s with out := s.out.bridged s.now }) chg _)

/-- The old target had no entry, so its SELECT only completes. -/
theorem State.replaced_reopened (target : c.toSlot = some i) (out : (s.queue i).out = none) {l : Link}
    (completed : s.complete c.tag (selectCompletion (some i) .superseded .ok) = { s with link := l }) (o : Output)
    (sel : Selection) :
    State.replaced { s with out := o, chg := some c.reopened } c.reopened sel =
      State.clearShed { s with
        out := o, link := l
        chg := some { c.reopened with toSlot := sel.slot, tag := sel.tag, targetProbe := none } } sel.slot := by
  have superseded : State.complete { s with out := o, chg := some c.reopened } c.reopened.tag
      (selectCompletion c.reopened.toSlot .superseded .ok) =
      { s with out := o, chg := some c.reopened, link := l } := by
    refine (State.complete_with s o (some c.reopened) c.tag _).trans ?_
    have named : c.reopened.toSlot = some i := target
    rw [named, completed]
  have removed : State.removeTargetEntry { s with out := o, chg := some c.reopened, link := l } c.reopened.toSlot =
      { s with out := o, chg := some c.reopened, link := l } := by
    have named : c.reopened.toSlot = some i := target
    rw [named]
    exact State.removePrepare_of_none (by exact out)
  rw [State.replaced, superseded, removed]

/-- A pending NONE ends the changeover in DARK (R106). -/
theorem State.targetCheck_none {tag : Byte} (chg : s.chg = some c) (target : c.toSlot = some i)
    (late : c.stage = .reclass ∨ c.stage = .align ∨ c.stage = .settle) (left : (s.slot i).state ≠ .ready)
    (out : (s.queue i).out = none) (source : s.out.source = none)
    (asked : c.reselect = some { slot := none, tag := tag }) :
    s.targetCheck =
      ((State.notice { s.complete c.tag (selectCompletion (some i) .superseded .ok) with
          chg := none, out := s.out.inDark s.now, sampler := s.sampler.stop } .output
        [0, 0xFF, 8, 1, s.out.classOut.code, 0]).complete tag (selectCompletion none .ok .ok)).push
          [.turn i, .shed i] := by
  obtain ⟨l, completed⟩ : ∃ l, s.complete c.tag (selectCompletion (some i) .superseded .ok) = { s with link := l } :=
    ⟨_, State.complete_eq ..⟩
  have replaced := State.replaced_reopened target out completed (s.out.bridged s.now) { slot := none, tag := tag }
  have still : (s.out.bridged s.now).source = none ∧ (s.out.bridged s.now).classOut = s.out.classOut := by
    unfold Output.bridged
    split <;> exact ⟨source, rfl⟩
  rw [State.targetCheck_reselect chg target late left asked, State.retarget_none rfl (by simp [Change.reopened]) rfl, replaced]
  dsimp only [State.clearShed]
  rw [State.endAtNone_of_some rfl (by exact still.1), completed]
  have dark : State.endsDark { s with
      out := s.out.bridged s.now, link := l
      chg := some { c.reopened with toSlot := none, tag := tag, targetProbe := none } } =
      State.notice { s with link := l, chg := none, out := s.out.inDark s.now, sampler := s.sampler.stop } .output
        [0, 0xFF, 8, 1, s.out.classOut.code, 0] := by
    rw [State.endsDark]
    dsimp only
    rw [Output.bridged_inDark, still.2]
  rw [dark]
  exact congrArg (fun ts => State.push _ ts) (congrArg releasedTasks target)

/-- A pending slot becomes the target, with a prepare entry of its own (R106). -/
theorem State.targetCheck_some {tag : Byte} {j : SlotNo} (chg : s.chg = some c) (target : c.toSlot = some i)
    (late : c.stage = .reclass ∨ c.stage = .align ∨ c.stage = .settle) (left : (s.slot i).state ≠ .ready)
    (out : (s.queue i).out = none) (asked : c.reselect = some { slot := some j, tag := tag })
    (other : (s.slot j).state ≠ .ready) (free : (s.queue j).out = none) :
    s.targetCheck =
      State.push (State.modQueue (State.modSlot { s.complete c.tag (selectCompletion (some i) .superseded .ok) with
          out := s.out.bridged s.now
          chg := some (Change.prepared { c.reopened with toSlot := some j, tag := tag } s.settings.timeout s.now) } j
            fun sl => { sl with shedPending := false }) j fun q => { q with out := some (s.slot j).prepareEntry })
        [.turn i, .shed i, .turn j] := by
  obtain ⟨l, completed⟩ : ∃ l, s.complete c.tag (selectCompletion (some i) .superseded .ok) = { s with link := l } :=
    ⟨_, State.complete_eq ..⟩
  have replaced := State.replaced_reopened target out completed (s.out.bridged s.now) { slot := some j, tag := tag }
  rw [State.targetCheck_reselect chg target late left asked, State.retarget_some rfl (by simp [Change.reopened]) rfl, replaced]
  dsimp only [State.clearShed]
  rw [State.startPrepare_placed (by rfl) (by exact free) (by rw [State.modSlot_slot_self]; exact other), completed,
    State.modSlot_slot_self, State.push_push]
  exact congrArg (fun ts => State.push _ ts) (congrArg (fun x => releasedTasks x ++ [Task.turn j]) target)

end

/-! ## SELECT's effects before the cut, with the request taken (R110, R111) -/

theorem State.complete_waiting (s : State) (tag : Byte) (body : List Byte) :
    (s.complete tag body).link.waiting = s.link.waiting := by
  unfold State.complete
  dsimp only
  split <;> rfl

theorem Change.uncut_of_early {c : Change} (early : c.stage = .fade ∨ c.stage = .bridge) :
    c.stage ≠ .align ∧ c.stage ≠ .settle := by
  rcases early with stage | stage <;> simp [stage]

theorem Change.uncut_of_late {c : Change} (late : c.stage = .prepare ∨ c.stage = .reclass) :
    c.stage ≠ .align ∧ c.stage ≠ .settle := by
  rcases late with stage | stage <;> simp [stage]

/-- The state in which an accepted SELECT is carried out. -/
def State.accepts (s : State) (dt : Nat) (tag : Byte) : State := (s.received dt).reply 0x0C tag [1]

section
variable {dt : Nat} {tag slot : Byte} {sel : Option SlotNo} {c : Change} {s t : State}

/-- A SELECT before the cut replaces the target. -/
theorem exec_select_replaces {n : Nat} (h : s.TakesRequests)
    (names : slot = 8 ∧ sel = none ∨ ∃ i : SlotNo, i.val = slot.toNat ∧ sel = some i)
    (tagged : tag ≠ 0) (configured : ∀ j, sel = some j → (s.slot j).state ≠ .unconfigured)
    (changing : s.out.mode = .changing) (chg : s.chg = some c) (other : c.toSlot ≠ sel)
    (fresh : ∀ r, c.reselect = some r → r.slot ≠ sel) (align : c.stage ≠ .align) (settle : c.stage ≠ .settle)
    (ends : run 4096 ((s.accepts dt tag).retarget { slot := sel, tag := tag }) = run n t) (done : t.todo = []) :
    exec (.select dt tag slot) s = .next t.beginMessage := by
  refine exec_select_changing (n := n) h names tagged configured changing chg other fresh ?_ done
  rw [State.acceptSelect_of_open (s := (s.received dt).reply 0x0C tag [1]) chg align settle]
  exact ends

theorem run_replaces_early (chg : s.chg = some c) (early : c.stage = .fade ∨ c.stage = .bridge)
    (todo : s.todo = []) (old : ∀ k, c.toSlot = some k →
      s.queue k = { ctrl := [], out := none, running := none, pauseEnd := none } ∧ (s.slot k).shedPending = false) :
    run 4096 ((s.accepts dt tag).retarget { slot := sel, tag := tag }) =
      run 4094 ((s.accepts dt tag).replaced c { slot := sel, tag := tag }) :=
  run_retarget_early (s := s.accepts dt tag) chg early todo (fun k target => (old k target).2) fun k target => by
    have queue : (s.accepts dt tag).queue k = { ctrl := [], out := none, running := none, pauseEnd := none } :=
      (old k target).1
    rw [queue]
    exact .inl ⟨rfl, rfl, rfl⟩

end

/-- Settles O49. -/
theorem selectRetargetsOrReselects : Obligations.SelectRetargetsOrReselects := by
  refine ⟨fun dt tag slot sel c s h names tagged configured changing chg other fresh => ?_,
    fun s i e r p out runs kind => ⟨fun last => State.stepEnds_prepare out runs kind last p, fun steps ready probed =>
      State.beginStep_bare out runs kind steps ready probed⟩, fun s c i chg => ⟨fun r => State.prepareOutcome_of_other chg r,
        fun stage target reselect source out => ?_⟩, fun s c i chg target => ⟨State.targetCheck_of_kept chg target,
          fun late left out => ⟨fun unasked => ?_, fun tag asked source => ?_, fun tag j asked other free => ?_⟩⟩⟩
  · refine ⟨fun cut => ⟨fun first => ?_, fun r pending => ?_⟩, fun early old => ?_, fun late source old => ⟨fun unnamed => ?_,
      fun j named out => ⟨fun state runs => ?_, fun p d state probe figures accepts low high => ?_⟩⟩⟩
    · refine exec_select_changing (n := 4096) h names tagged configured changing chg other fresh ?_ ?_
      · rw [State.acceptSelect_of_cut (s := (s.received dt).reply 0x0C tag [1]) chg cut,
          State.storeReselect_first (s := (s.received dt).reply 0x0C tag [1]) chg first]
      · exact h.todo
    · refine exec_select_changing (n := 4096) h names tagged configured changing chg other fresh ?_ ?_
      · rw [State.acceptSelect_of_cut (s := (s.received dt).reply 0x0C tag [1]) chg cut,
          State.storeReselect_again (s := (s.received dt).reply 0x0C tag [1]) chg pending]
      · simpa using h.todo
    · have left := State.replaced_spec (s := s.accepts dt tag) (c := c) (sel := { slot := sel, tag := tag })
      have queues : ((s.accepts dt tag).replaced c { slot := sel, tag := tag }).queues = s.queues :=
        State.replaced_queues (s := s.accepts dt tag) fun k target => by
          exact congrArg Queue.out (old k target).1
      have waiting : ((s.accepts dt tag).replaced c { slot := sel, tag := tag }).link.waiting = none := by
        rw [left.link, State.complete_waiting]
        exact h.waiting
      obtain ⟨align, settle⟩ := Change.uncut_of_early early
      refine ⟨_, exec_select_replaces h names tagged configured changing chg other fresh align settle
        (run_replaces_early chg early h.todo old) (left.todo.trans h.todo), ?_⟩
      have sent := State.beginMessage_link_congr left.link (by rw [State.complete_waiting]; exact h.waiting)
      rw [State.beginMessage_eq waiting]
      exact ⟨left.chg, left.out, left.target, left.others, queues, left.supply, left.coin, sent⟩
    · obtain ⟨align, settle⟩ := Change.uncut_of_late late
      subst unnamed
      have left := State.replaced_spec (s := s.accepts dt tag) (c := c) (sel := { slot := none, tag := tag })
      have queue := State.replaced_queue (s := s.accepts dt tag) (c := c) (sel := { slot := none, tag := tag })
        fun k target => (old k target).2
      obtain ⟨queues, replaced⟩ := State.replaced_eq (s := s.accepts dt tag) (c := c) (sel := { slot := none, tag := tag })
      have slots : ((s.accepts dt tag).replaced c { slot := none, tag := tag }).slots = s.slots := by
        rw [replaced]
        rfl
      refine ⟨_, exec_select_replaces (n := 4094) h names tagged configured changing chg other fresh align settle
        (run_retarget_none (s := s.accepts dt tag) chg late rfl source h.todo (fun k target => (old k target).1)
          fun k target => (old k target).2) (by simp [left.todo]; exact h.todo), ?_⟩
      refine ⟨by simp [State.endsDark], ?_, ?_, fun k => ?_, ?_, ?_, ?_, ?_, ?_⟩
      · simp [State.endsDark, left.out, left.now]
        rfl
      · simp [State.endsDark, left.sampler]
        rfl
      · exact (State.queue_of_queues (by simp) k).trans (queue k)
      · simp [slots]
      · simp [State.endsDark, left.supply]
        rfl
      · simp [State.endsDark, left.coin]
        rfl
      · simp [State.endsDark, left.deadline]
        rfl
      · refine State.complete_link_congr ?_ tag _
        unfold State.endsDark
        rw [left.out]
        exact State.notice_link_congr (by exact left.link) _ _
    · obtain ⟨align, settle⟩ := Change.uncut_of_late late
      subst named
      have left := State.replaced_spec (s := s.accepts dt tag) (c := c) (sel := { slot := some j, tag := tag })
      have queue := State.replaced_queue (s := s.accepts dt tag) (c := c) (sel := { slot := some j, tag := tag })
        fun k target => (old k target).2
      obtain ⟨ends, done⟩ := run_retarget_placed (s := s.accepts dt tag) (sel := { slot := some j, tag := tag }) chg late rfl
        other h.todo (fun k target => (old k target).1) (fun k target => (old k target).2) state out runs rfl rfl
      have mine := (queue j).trans (if_neg other)
      refine ⟨_, exec_select_replaces h names tagged configured changing chg other fresh align settle ends done,
        ⟨left.target j rfl, fun k apart => ⟨left.others k fun e => apart (Option.some.inj e).symm, ?_⟩, left.supply, left.coin,
          left.link⟩, ?_, left.out, left.deadline, _, (s.slot j).prepareSteps_preparedBy, ?_⟩
      · exact (State.modQueue_queue_of_ne _ apart.symm _).trans (queue k)
      · rw [left.settings, left.now]
        rfl
      · have entry : (((s.accepts dt tag).replaced c { slot := some j, tag := tag }).slot j).prepareEntry =
            (s.slot j).prepareEntry := by
          rw [left.target j rfl]
          rfl
        rw [State.modQueue_queue_self]
        exact congrArg₂ (fun (q : Queue) e => ({ q with out := some e } : Queue)) mine entry
    · obtain ⟨align, settle⟩ := Change.uncut_of_late late
      subst named
      have left := State.replaced_spec (s := s.accepts dt tag) (c := c) (sel := { slot := some j, tag := tag })
      have queue := State.replaced_queue (s := s.accepts dt tag) (c := c) (sel := { slot := some j, tag := tag })
        fun k target => (old k target).2
      have ends := run_retarget_measured (n := 4094) (s := s.accepts dt tag) (sel := { slot := some j, tag := tag }) chg late
        rfl other h.todo (fun k target => (old k target).1) (fun k target => (old k target).2) state probe figures
        ((s.settings.accept_iff d).mpr ⟨accepts, low, high⟩) out rfl
      have mine := (queue j).trans (if_neg other)
      have same : (if decide (d.cls = s.out.classOut) = true then some 0 else none) =
          if d.cls = s.out.classOut then some 0 else none := if_congr decide_eq_true_iff rfl rfl
      refine ⟨_, exec_select_replaces h names tagged configured changing chg other fresh align settle ends
        (left.todo.trans h.todo),
        ⟨left.target j rfl, fun k apart => ⟨left.others k fun e => apart (Option.some.inj e).symm, queue k⟩, left.supply,
          left.coin, left.link⟩, ?_, ?_, ?_, mine⟩
      · rw [left.settings, left.now, left.out, ← same]
        rfl
      · rw [left.out]
        rfl
      · rw [left.settings, left.now, left.out, left.deadline]
        rfl
  · have fails := State.failChange_unprepared chg target reselect source out
    refine ⟨fun r bad => ?_, fun p d probe figures => ⟨fun accepted => ?_, fun rejected => ?_⟩⟩
    · rw [State.prepareOutcome_of_target chg r stage target, if_neg bad]
      exact fails ..
    · rw [State.prepareOutcome_of_target chg .ok stage target, if_pos rfl, State.startReclass_accepted chg probe figures
        ((s.settings.accept_iff d).mpr accepted)]
      simp only [Change.reclassed, decide_eq_true_iff]
    · rw [State.prepareOutcome_of_target chg .ok stage target, if_pos rfl, State.startReclass_rejected chg probe figures
        (mt (s.settings.accept_iff d).mp rejected)]
      exact State.failChange_unprepared (s := { s with chg := some (c.reclassed p s.settings.settle false) }) rfl target
        reselect source out ..
  · refine ⟨_, (s.slot i).prepareSteps_preparedBy, (State.targetCheck_again chg target late left out unasked).trans ?_⟩
    have again : c.prepared s.settings.timeout s.now =
        Change.prepared { c with toSlot := some i, reselect := none } s.settings.timeout s.now := by
      rw [← target, ← unasked]
    rw [again]
    rfl
  · exact State.targetCheck_none chg target late left out source asked
  · refine ⟨_, (s.slot j).prepareSteps_preparedBy, (State.targetCheck_some chg target late left out asked other free).trans ?_⟩
    rfl

end Sys2Proof.Machine

/-! An accepted SELECT starts a changeover (R89 to R92, R96 to R100). -/

namespace Sys2Proof.Machine

/-! ## What leaves the waiting request where it is -/

theorem State.notice_waiting (s : State) (k : NoticeKey) (body : List Byte) :
    (s.notice k body).link.waiting = s.link.waiting := by
  rw [State.notice_link]

theorem State.setState_waiting (s : State) (i : SlotNo) (st : SlotState) :
    (s.setState i st).link.waiting = s.link.waiting := by
  unfold State.setState
  dsimp only
  split
  · rfl
  · exact State.notice_waiting ..

theorem State.outNotice_exists (s : State) (cause : OutCause) :
    ∃ l : Link, l.waiting = s.link.waiting ∧ s.outNotice cause = { s with link := l } :=
  ⟨_, State.notice_waiting .., State.outNotice_eq ..⟩

theorem State.clearShed_of_slots {s t : State} (e : s.slots = t.slots) (x : Option SlotNo) :
    s.clearShed x = { s with slots := (t.clearShed x).slots } := by
  cases x with
  | none => exact congrArg (fun v => ({ s with slots := v } : State)) e
  | some j =>
    unfold State.clearShed State.modSlot State.slot
    rw [e]

theorem State.acceptSelect_of_none {s : State} (chg : s.chg = none) (sel : Selection) :
    s.acceptSelect sel = s.startChangeover sel := by
  unfold State.acceptSelect
  rw [chg]

/-- A SELECT accepted outside a changeover starts one (R89, R90). -/
theorem State.takeSelect_starts {s : State} {tag slot : Byte} {sel : Option SlotNo}
    (names : slot = 8 ∧ sel = none ∨ ∃ j : SlotNo, j.val = slot.toNat ∧ sel = some j) (tagged : tag ≠ 0)
    (configured : ∀ j, sel = some j → (s.slot j).state ≠ .unconfigured) (chg : s.chg = none)
    (dark : s.out.mode = .dark → sel ≠ none) (other : sel ≠ none → s.out.source ≠ sel) :
    s.takeSelect tag slot = (s.reply 0x0C tag [1]).startChangeover { slot := sel, tag := tag } := by
  rw [State.takeSelect_of_accepted names tagged configured fun already => ?_]
  · exact State.acceptSelect_of_none (s := s.reply 0x0C tag [1]) chg _
  · rcases (s.selectAlready_iff sel).mp already with ⟨mode, none⟩ | ⟨-, some, same⟩ | ⟨-, c, chg', -⟩
    · exact dark mode none
    · exact other some same
    · simp [chg] at chg'

/-! ## From a source slot (R90 to R92) -/

/-- The output record at the start of a changeover, a held slot's cut undone and what was staged stored. -/
def Output.leaves (o : Output) (now : Nat) : Output :=
  Output.changing { (if o.mode = .holding then o.bridged now else o) with stagedLevel := none, stagedMap := none }

/-- The slot that a changeover leaves has moved, with its notice. -/
def State.Releases (s : State) (i : SlotNo) (f : Slot → Slot) : Prop :=
  ∃ l : Link, l.waiting = s.link.waiting ∧ s.releaseOutgoing i = { s.modSlot i f with link := l }

theorem State.releases_ready {s : State} {i : SlotNo} (form : s.out.hold.form ≠ some .loss)
    (active : (s.slot i).state = .active) : s.Releases i fun sl => { sl with state := .ready } := by
  refine ⟨_, State.setState_waiting s i .ready, ?_⟩
  unfold State.releaseOutgoing
  rw [if_neg form, if_pos active]
  exact State.setState_eq ..

theorem State.releases_fault {s : State} {i : SlotNo} (form : s.out.hold.form = some .loss) :
    s.Releases i fun sl => { sl with state := .fault, lastFault := some .syncLost } := by
  refine ⟨(s.faultSlot i .syncLost).link, State.setState_waiting _ i .fault, ?_⟩
  unfold State.releaseOutgoing
  rw [if_pos form]
  exact State.faultSlot_eq ..

section
variable {s : State} {i : SlotNo}

theorem State.leaveSource_eq {f : Slot → Slot} (source : s.out.source = some i) (released : s.Releases i f) :
    ∃ list engines l, l.waiting = s.link.waiting ∧ s.leaveSource =
      { (s.modSlot i f).modSlot i fun sl => sl.stored s.out with
        out := { s.out with stagedLevel := none, stagedMap := none }, probeList := list, engines := engines, link := l } := by
  obtain ⟨l, waiting, e⟩ := released
  unfold State.leaveSource
  rw [source]
  dsimp only
  rw [e, State.withdrawOutput_eq, State.storeStaged_eq]
  exact ⟨_, _, l, waiting, rfl⟩

theorem State.leaveHeldSync_eq (s : State) :
    s.leaveHeldSync = { s with out := if s.out.mode = .holding then s.out.bridged s.now else s.out } := by
  unfold State.leaveHeldSync
  split
  · exact s.leaveSlotSync_bridged
  · rfl

theorem Output.leaves_eq (o : Output) (now : Nat) :
    Output.changing (if o.mode = .holding then Output.bridged { o with stagedLevel := none, stagedMap := none } now
      else { o with stagedLevel := none, stagedMap := none }) = o.leaves now := by
  unfold Output.leaves Output.bridged
  split
  · split <;> rfl
  · rfl

theorem Output.leaves_spec (o : Output) (now : Nat) :
    (o.leaves now).mode = .changing ∧ (o.leaves now).source = none ∧ (o.leaves now).sourceProbe = none ∧
      (o.leaves now).gain = o.gain ∧ (o.leaves now).target = 63 ∧ (o.leaves now).stagedLevel = none ∧
      (o.leaves now).stagedMap = none ∧ (o.leaves now).watch = { o.watch with timer := none } ∧
      (o.leaves now).hold = Hold.none ∧ (o.leaves now).classOut = o.classOut ∧ (o.leaves now).timing = o.timing := by
  unfold Output.leaves Output.bridged
  split
  · split <;> exact ⟨rfl, rfl, rfl, rfl, rfl, rfl, rfl, rfl, rfl, rfl, rfl⟩
  · exact ⟨rfl, rfl, rfl, rfl, rfl, rfl, rfl, rfl, rfl, rfl, rfl⟩

theorem Output.leaves_of_shown {o : Output} (shown : o.mode ≠ .holding) (now : Nat) :
    (o.leaves now).sync = o.sync ∧ (o.leaves now).blanked = o.blanked := by
  unfold Output.leaves
  rw [if_neg shown]
  exact ⟨rfl, rfl⟩

theorem Output.leaves_of_held {o : Output} (held : o.mode = .holding) (blanked : o.sync = .bridge → o.blanked = true)
    (now : Nat) :
    (o.leaves now).sync = .bridge ∧ (o.leaves now).blanked = true ∧
      (o.sync ≠ .bridge → (o.leaves now).frameStart = now) := by
  unfold Output.leaves Output.bridged
  rw [if_pos held]
  split
  next bridge => exact ⟨bridge, blanked bridge, fun other => absurd bridge other⟩
  next => exact ⟨rfl, rfl, fun _ => rfl⟩

theorem Slot.stored_of_setup {sl : Slot} {su : Setup} (setup : sl.setup = some su) (o : Output) :
    sl.stored o =
      { sl with
        setup := some
          { profile := { su.profile with audioLevel := o.stagedLevel.getD su.profile.audioLevel }
            map := o.stagedMap.getD su.map } } := by
  unfold Slot.stored
  rw [setup, ← Setup.stored_eq]
  rfl

theorem Output.leaves_gain (o : Output) (now : Nat) : (o.leaves now).gain = o.gain := by
  obtain ⟨-, -, -, gain, -⟩ := o.leaves_spec now
  exact gain

/-- A changeover begun from a source slot, before its end-of-FADE test (R90 to R92). -/
def State.leaving (s : State) (i : SlotNo) (f : Slot → Slot) (sel : Selection) : State :=
  { ((s.modSlot i f).modSlot i fun sl => sl.stored s.out).clearShed sel.slot with
    chg := some (Change.start (some i) sel), out := s.out.leaves s.now, sampler := s.sampler.stop }

theorem State.startChangeover_from {f : Slot → Slot} (source : s.out.source = some i) (released : s.Releases i f)
    (sel : Selection) :
    ∃ list engines l, l.waiting = s.link.waiting ∧ s.startChangeover sel =
      State.push { s.leaving i f sel with probeList := list, engines := engines, link := l } [.fade] := by
  obtain ⟨list, engines, l, waiting, left⟩ := State.leaveSource_eq source released
  unfold State.startChangeover
  dsimp only
  rw [left, State.leaveHeldSync_eq, source]
  generalize begun : State.clearShed _ sel.slot = v
  obtain ⟨l', waiting', e⟩ := v.outNotice_exists .changeover
  obtain ⟨slots, cleared⟩ := ((s.modSlot i f).modSlot i fun sl => sl.stored s.out).clearShed_fields sel.slot
  have unshed := begun.symm.trans
    (State.clearShed_of_slots (t := (s.modSlot i f).modSlot i fun sl => sl.stored s.out) (by rfl) sel.slot)
  rw [e, unshed]
  refine ⟨list, engines, l', (waiting'.trans (congrArg (fun t : State => t.link.waiting) unshed)).trans waiting,
    congrArg (fun t : State => t.push [.fade]) ?_⟩
  unfold State.leaving
  rw [← s.out.leaves_eq s.now, cleared]
  rfl

/-- What the start of a changeover leaves of the part (R89 to R92). -/
structure State.Begun (s t : State) (i : SlotNo) (sel : Selection) (left : Slot) : Prop where
  now : t.now = s.now
  chg : t.chg = some (Change.start (some i) sel)
  out : t.out = s.out.leaves s.now
  mine : sel.slot ≠ some i → t.slot i = left
  target : ∀ j, sel.slot = some j → j ≠ i → t.slot j = { s.slot j with shedPending := false }
  others : ∀ j, j ≠ i → sel.slot ≠ some j → t.slot j = s.slot j
  queues : t.queues = s.queues
  supply : t.supply = s.supply
  coin : t.coin = s.coin
  sampler : t.sampler = s.sampler.stop
  todo : t.todo = s.todo
  waiting : t.link.waiting = s.link.waiting

theorem State.Begun.spec {t : State} {sel : Selection} {left : Slot} (h : s.Begun t i sel left)
    (apart : ∀ j, sel.slot = some j → j ≠ i) :
    t.chg = some (Change.start (some i) sel) ∧ t.out.mode = .changing ∧ t.out.source = none ∧ t.out.sourceProbe = none ∧
      t.out.gain = s.out.gain ∧ t.out.target = 63 ∧ t.out.stagedLevel = none ∧ t.out.stagedMap = none ∧
      t.out.watch = { s.out.watch with timer := none } ∧ t.out.hold = Hold.none ∧ t.out.classOut = s.out.classOut ∧
      t.out.timing = s.out.timing ∧ (∀ j, sel.slot = some j → t.slot j = { s.slot j with shedPending := false }) ∧
      (∀ j, j ≠ i → sel.slot ≠ some j → t.slot j = s.slot j) ∧ t.queues = s.queues ∧ t.supply = s.supply ∧
      t.coin = s.coin ∧ t.sampler = { s.sampler with sampling := false, line := none, point := 0 } := by
  obtain ⟨mode, source, probe, gain, target, level, map, watch, hold, cls, timing⟩ := s.out.leaves_spec s.now
  rw [h.out]
  exact ⟨h.chg, mode, source, probe, gain, target, level, map, watch, hold, cls, timing,
    fun j aimed => h.target j aimed (apart j aimed), h.others, h.queues, h.supply, h.coin, h.sampler⟩

theorem State.startChangeover_begins {f : Slot → Slot} (source : s.out.source = some i) (released : s.Releases i f)
    (sel : Selection) :
    ∃ t, s.startChangeover sel = t.push [.fade] ∧ s.Begun t i sel ((f (s.slot i)).stored s.out) := by
  obtain ⟨list, engines, l, waiting, begun⟩ := State.startChangeover_from source released sel
  obtain ⟨mine, others⟩ := State.slot_of_modSlot (s := s) (i := i) (f := fun sl => (f sl).stored s.out)
    (t := (s.modSlot i f).modSlot i fun sl => sl.stored s.out) (by rw [State.modSlot_modSlot])
  obtain ⟨unshed, same⟩ := ((s.modSlot i f).modSlot i fun sl => sl.stored s.out).clearShed_slot sel.slot
  obtain ⟨slots, cleared⟩ := ((s.modSlot i f).modSlot i fun sl => sl.stored s.out).clearShed_fields sel.slot
  refine ⟨_, begun, ?_⟩
  unfold State.leaving
  exact
    { now := (congrArg State.now cleared :)
      chg := rfl
      out := rfl
      mine := fun other => (same i other).trans mine
      target := fun j aimed other => (unshed j aimed).trans (by rw [others j other])
      others := fun j other unaimed => (same j unaimed).trans (others j other)
      queues := (congrArg State.queues cleared :)
      supply := (congrArg State.supply cleared :)
      coin := (congrArg State.coin cleared :)
      sampler := rfl
      todo := (congrArg State.todo cleared :)
      waiting := waiting }

theorem exec_select_from {f : Slot → Slot} {dt : Nat} {tag slot : Byte} {sel : Option SlotNo} (h : s.TakesRequests)
    (names : slot = 8 ∧ sel = none ∨ ∃ j : SlotNo, j.val = slot.toNat ∧ sel = some j) (tagged : tag ≠ 0)
    (configured : ∀ j, sel = some j → (s.slot j).state ≠ .unconfigured) (chg : s.chg = none)
    (dark : s.out.mode ≠ .dark) (source : s.out.source = some i) (other : sel ≠ some i)
    (released : (s.accepts dt tag).Releases i f) (sounding : s.out.gain ≠ 63 ∨ s.coin.pulse ≠ none) :
    ∃ t l, exec (.select dt tag slot) s = .next { t with link := l } ∧
      (s.accepts dt tag).Begun t i { slot := sel, tag := tag } ((f (s.slot i)).stored s.out) := by
  obtain ⟨t, starts, begun⟩ := State.startChangeover_begins (s := s.accepts dt tag) (by exact source) released
    { slot := sel, tag := tag }
  have taken := (State.takeSelect_starts (s := s.received dt) names tagged configured chg (fun mode => absurd mode dark)
    fun _ same => other (same.symm.trans source)).trans starts
  have done : t.todo = [] := begun.todo.trans h.todo
  have settled : t.fadeTest = t := State.fadeTest_of_sounding
    (sounding.imp (fun gain => by rw [begun.out, Output.leaves_gain]; exact gain) fun pulse => by rw [begun.coin]; exact pulse)
  have ends : run 4096 (t.push [.fade]) = run 4095 t := run_task (x := .fade) (by exact settled)
  refine ⟨t, t.beginMessage.link, ?_, begun⟩
  have sent := State.beginMessage_eq (s := t) (begun.waiting.trans h.waiting)
  exact (request_of_run (op := .select slot) h taken ends done).trans (congrArg Host.Outcome.next sent)

end

/-! ## From DARK (R93, R94) -/

theorem State.endsDark_complete (s : State) (tag : Byte) (body : List Byte) :
    ∃ l : Link, l.waiting = s.link.waiting ∧ s.endsDark.complete tag body =
      { s with chg := none, out := s.out.inDark s.now, sampler := s.sampler.stop, link := l } := by
  have waiting : (s.endsDark.complete tag body).link.waiting = s.link.waiting :=
    (State.complete_waiting ..).trans (State.notice_waiting ..)
  refine ⟨_, waiting, (State.complete_eq ..).trans ?_⟩
  unfold State.endsDark
  rw [State.notice_eq]

theorem State.OutputLawful.isDark {s : State} (h : s.OutputLawful) (dark : s.out.mode = .dark) : s.IsDark := by
  rcases State.outputLawful_cases h with d | ⟨j, d⟩ | ⟨j, d⟩ | ⟨d, -⟩
  · exact d
  · cases d.mode.symm.trans dark
  · cases d.mode.symm.trans dark
  · cases d.mode.symm.trans dark

/-- A changeover that fails, its target busy, without a prepare entry and with no shed pending, leaves DARK (R109). -/
theorem run_failChange_busy {n : Nat} {s : State} {c : Change} {j : SlotNo} (chg : s.chg = some c)
    (target : c.toSlot = some j) (reselect : c.reselect = none) (source : s.out.source = none) (todo : s.todo = [])
    (unshed : (s.slot j).shedPending = false) (out : (s.queue j).out = none) (runs : (s.queue j).running ≠ none)
    (reason step : Result) :
    ∃ l : Link, l.waiting = s.link.waiting ∧ run (n + 2) (s.failChange reason step) =
      run n { s with chg := none, out := s.out.inDark s.now, sampler := s.sampler.stop, link := l } := by
  have undone : s.endsDark.removeTargetEntry c.toSlot = s.endsDark := by
    rw [target]
    exact State.removePrepare_of_none (by rw [State.endsDark_queue]; exact out)
  obtain ⟨l, waiting, completed⟩ := s.endsDark_complete c.tag (selectCompletion c.toSlot reason step)
  obtain ⟨failed, -⟩ := run_failChange (n := n) chg source reselect undone todo
    (fun i aims => .inl (by cases target.symm.trans aims; exact unshed))
    (fun i aims => .inl (by cases target.symm.trans aims; rw [State.endsDark_queue]; exact runs)) reason step
  exact ⟨l, waiting, failed.trans (congrArg (run n) completed)⟩

/-- The output at the start of a changeover from DARK, its FADE and BRIDGE already over. -/
structure State.Opened (s t : State) (j : SlotNo) (tag : Byte) : Prop where
  now : t.now = s.now
  chg : t.chg = some (Change.start none { slot := some j, tag := tag })
  out : t.out = s.out.changing
  target : t.slot j = { s.slot j with shedPending := false }
  others : ∀ i, i ≠ j → t.slot i = s.slot i
  queues : t.queues = s.queues
  settings : t.settings = s.settings
  deadline : t.classDeadline = s.classDeadline
  coin : t.coin = s.coin
  todo : t.todo = s.todo
  waiting : t.link.waiting = s.link.waiting

section
variable {s : State} {j : SlotNo}

theorem State.startChangeover_opens (source : s.out.source = none) (dark : s.out.mode = .dark) (tag : Byte) :
    ∃ t, s.startChangeover { slot := some j, tag := tag } = t.push [.fade] ∧ s.Opened t j tag := by
  have left : s.leaveSource = s := by simp [State.leaveSource, source]
  have synced : s.leaveHeldSync = s := if_neg (by simp [dark])
  unfold State.startChangeover
  dsimp only
  rw [left, synced, source]
  generalize begun : State.clearShed _ (some j) = v
  obtain ⟨l, waiting, e⟩ := v.outNotice_exists .changeover
  rw [e]
  subst begun
  refine ⟨_, rfl, ?_⟩
  obtain ⟨target, others⟩ := State.slot_of_modSlot (s := s) (i := j) (f := fun sl => { sl with shedPending := false })
    (t := s.modSlot j _) rfl
  exact
    { now := rfl, chg := rfl, out := rfl, target := target, others := others, queues := rfl, settings := rfl
      deadline := rfl, coin := rfl, todo := rfl, waiting := waiting }

/-- With the sound muted and no pulse in flight, FADE and BRIDGE are over at once (R93, R94). -/
theorem State.fadeTest_passes {c : Change} (chg : s.chg = some c) (fade : c.stage = .fade) (target : c.toSlot = some j)
    (muted : s.out.gain = 63) (pulse : s.coin.pulse = none) (bridge : s.out.sync = .bridge) :
    s.fadeTest = s.startPrepare j := by
  unfold State.fadeTest State.beginBridge State.bridgeEnds
  rw [chg]
  dsimp only
  rw [if_pos ⟨fade, s.fadeDone_iff.mpr ⟨muted, pulse⟩⟩, if_pos bridge, target]

/-- What a SELECT of a slot in DARK, the sound muted and no pulse in flight, leaves to PREPARE. -/
theorem exec_select_dark {dt : Nat} {tag slot : Byte} (h : s.TakesRequests) (lawful : s.OutputLawful)
    (names : j.val = slot.toNat) (tagged : tag ≠ 0) (configured : (s.slot j).state ≠ .unconfigured)
    (dark : s.out.mode = .dark) (bridge : s.out.sync = .bridge) (muted : s.out.gain = 63) (pulse : s.coin.pulse = none) :
    ∃ v, (s.accepts dt tag).Opened v j tag ∧ ∀ n t, run 4095 (v.startPrepare j) = run n t → t.todo = [] →
      exec (.select dt tag slot) s = .next t.beginMessage := by
  have idle := lawful.isDark dark
  obtain ⟨v, opens, opened⟩ := State.startChangeover_opens (s := s.accepts dt tag) (j := j) idle.source dark tag
  have taken := (State.takeSelect_starts (s := s.received dt) (sel := some j) (.inr ⟨j, names, rfl⟩) tagged
    (fun _ e => by cases e; exact configured) idle.chg (fun _ => nofun)
    fun _ same => by cases idle.source.symm.trans same).trans opens
  have passes := State.fadeTest_passes opened.chg rfl rfl (by rw [opened.out]; exact muted)
    (by rw [opened.coin]; exact pulse) (by rw [opened.out]; exact bridge)
  have ends : run 4096 (v.push [.fade]) = run 4095 (v.startPrepare j) := run_task (x := .fade) (by exact passes)
  exact ⟨v, opened, fun n t rest done => request_of_run (op := .select slot) h taken (ends.trans rest) done⟩

end

/-- Settles O48. -/
theorem selectStartsChangeover : Obligations.SelectStartsChangeover := by
  refine ⟨fun dt tag slot sel i su s h lawful names tagged configured source other setup sounding => ?_, ?_⟩
  · have apart (j : SlotNo) (aimed : sel = some j) : j ≠ i := fun e => other (e ▸ aimed)
    refine ⟨fun mode active => ?_, fun mode form => ?_⟩
    · have shows := lawful.isShowing mode source
      have unheld : (s.accepts dt tag).out.hold.form ≠ some .loss := fun form => by cases shows.form.symm.trans form
      obtain ⟨t, l, e, begun⟩ := exec_select_from h names tagged configured shows.chg (by simp [mode]) source other
        (State.releases_ready (s := s.accepts dt tag) unheld active) sounding
      refine ⟨_, e, begun.spec apart, (begun.mine other).trans
        (Slot.stored_of_setup (sl := { s.slot i with state := .ready }) setup s.out), ?_⟩
      rw [begun.out]
      exact Output.leaves_of_shown (o := s.out) (by simp [mode]) _
    · have holds := lawful.isHolding ((s.heldSlot_iff i).mpr ⟨mode, source⟩)
      obtain ⟨t, l, e, begun⟩ := exec_select_from h names tagged configured holds.chg (by simp [mode]) source other
        (State.releases_fault (s := s.accepts dt tag) form) sounding
      refine ⟨_, e, begun.spec apart, (begun.mine other).trans
        (Slot.stored_of_setup (sl := { s.slot i with state := .fault, lastFault := some .syncLost }) setup s.out), ?_⟩
      rw [begun.out]
      exact Output.leaves_of_held mode holds.blanked _
  · intro dt tag slot j s h lawful names tagged configured dark bridge muted pulse out
    obtain ⟨v, opened, ends⟩ := exec_select_dark h lawful names tagged configured dark bridge muted pulse
    have target : v.slot j = { s.slot j with shedPending := false } := opened.target
    have others (i : SlotNo) (apart : i ≠ j) : v.slot i = s.slot i := opened.others i apart
    have state_kept : (v.slot j).state = (s.slot j).state := (congrArg Slot.state target :)
    have probe_kept : (v.slot j).lastProbe = (s.slot j).lastProbe := (congrArg Slot.lastProbe target :)
    have queue : v.queue j = s.queue j := State.queue_of_queues opened.queues j
    have free : (v.queue j).out = none := (congrArg Queue.out queue).trans out
    have waiting : v.link.waiting = none := opened.waiting.trans h.waiting
    have done : v.todo = [] := opened.todo.trans h.todo
    have cls : v.out.classOut = s.out.classOut := (congrArg Output.classOut opened.out :)
    have settings : v.settings = s.settings := opened.settings
    refine ⟨fun p d ready probe figures => ?_, fun state runs => ?_⟩
    · have begun := State.startPrepare_measured opened.chg free (state_kept.trans ready)
        (by rw [probe_kept, probe]; exact nofun)
      refine ⟨fun suits => ?_, fun rejects runs => ?_⟩
      · rw [State.startReclass_accepted (p := p) (d := d) rfl (by exact probe_kept.trans probe) figures
          (by rw [settings]; exact (s.settings.accept_iff d).mpr suits)] at begun
        refine ⟨_, (ends 4095 _ (congrArg (run 4095) begun) done).trans (congrArg Host.Outcome.next
          (State.beginMessage_eq (by exact waiting))), ?_⟩
        refine ⟨?_, (congrArg Output.mode opened.out :), rfl, rfl, (congrArg Output.sync opened.out :).trans bridge,
          (congrArg Output.current opened.out :), ?_, target, others, opened.queues⟩
        · rw [cls, settings]
          simp [Change.reclassed, Change.prepared, Change.start]
        · rw [cls, settings, opened.now, opened.deadline]
          rfl
      · rw [State.startReclass_rejected (p := p) (d := d) rfl (by exact probe_kept.trans probe) figures
          (by rw [settings]; exact fun a => rejects ((s.settings.accept_iff d).mp a))] at begun
        obtain ⟨l, kept, failed⟩ := run_failChange_busy (n := 4093)
          (s := { v with chg := some (Change.reclassed (Change.prepared
            (Change.start none { slot := some j, tag := tag }) v.settings.timeout v.now) p v.settings.settle false) })
          rfl rfl rfl (by exact (congrArg Output.source opened.out :)) done (by exact (congrArg Slot.shedPending target :)) free
          (by exact (congrArg Queue.running queue).trans_ne runs) .monitorRejects .ok
        refine ⟨_, (ends 4093 _ ((congrArg (run 4095) begun).trans failed) done).trans (congrArg Host.Outcome.next
          (State.beginMessage_eq ?_)), ?_⟩
        · exact kept.trans waiting
        · exact ⟨rfl, rfl, (congrArg Output.timing opened.out :), cls, opened.deadline, target, others, opened.queues⟩
    · have begun := State.startPrepare_placed opened.chg free (by rw [state_kept]; exact state)
      refine ⟨_, (ends 4094 _ ((congrArg (run 4095) begun).trans (run_task (x := .turn j) (State.turn_of_running ?_))) ?_).trans
        (congrArg Host.Outcome.next (State.beginMessage_eq ?_)), ?_⟩
      · rw [State.push_nil, State.modQueue_queue_self]
        exact (congrArg Queue.running queue).trans_ne runs
      · exact done
      · exact waiting
      · refine ⟨?_, (congrArg Output.mode opened.out :), (congrArg Output.timing opened.out :), cls, target,
          fun i apart => ⟨others i apart, ?_⟩, _, ?_, Slot.prepareSteps_preparedBy _⟩
        · rw [settings]
          exact congrArg (fun now => some (Change.prepared _ s.settings.timeout now)) opened.now
        · exact (State.modQueue_queue_of_ne v apart.symm fun q => { q with out := some (v.slot j).prepareEntry }).trans
            (State.queue_of_queues opened.queues i)
        · exact (State.modQueue_queue_self v j fun q => { q with out := some (v.slot j).prepareEntry }).trans
            (by rw [queue, target]; rfl)

end Sys2Proof.Machine

/-! The hard reset and the reset line (R181). -/

namespace Sys2Proof.Machine

/-! ## The reset line (R181, log 11) -/

/-- A part held in reset that has taken a command: the clock and the levels of the pins may have changed, and nothing else. -/
def State.PinsMoved (s t : State) : Prop :=
  (∀ i, t.tap i = { s.tap i with lineHigh := (t.tap i).lineHigh, frameHigh := (t.tap i).frameHigh }) ∧
  t = { s with
    now := t.now
    taps := t.taps
    controls := { s.controls with panel := t.controls.panel }
    coin := { s.coin with
      inA := { s.coin.inA with closed := t.coin.inA.closed }, inB := { s.coin.inB with closed := t.coin.inB.closed } }
    senses := t.senses }

theorem State.pinsMoved_advance (s : State) (dt : Nat) : s.PinsMoved (s.advance dt) := ⟨fun _ => rfl, rfl⟩

theorem State.pinsMoved_modTap (s : State) (dt : Nat) (i : SlotNo) {f : Tap → Tap}
    (level : ∀ x, f x = { x with lineHigh := (f x).lineHigh, frameHigh := (f x).frameHigh }) :
    s.PinsMoved ((s.advance dt).modTap i f) := by
  refine ⟨fun j => ?_, rfl⟩
  by_cases e : i = j
  · subst e
    rw [State.modTap_tap_self]
    exact level _
  · rw [State.modTap_tap_of_ne _ e]
    rfl

/-- How a command is taken by a part held in reset: a live one lets only time pass, one of a pin moves it. -/
inductive HeldEffect (s : State) : Outcome → Prop
  | live (dt : Nat) (effect : State → State) : HeldEffect s (Sys2Proof.Machine.live dt effect s)
  | pin (dt : Nat) (pin effect : State → State) (moves : s.PinsMoved (pin (s.advance dt))) :
    HeldEffect s (livePin dt pin effect s)

theorem request_heldEffect (dt : Nat) (tag : Byte) (op : ReqOp) (s : State) : HeldEffect s (request dt tag op s) :=
  .live ..

/-- Every command but the two resets is of one of these forms. -/
theorem exec_heldEffect (c : Instr) (s : State) (hard : ∀ dt k, c ≠ .hardReset dt k)
    (line : ∀ dt, c ≠ .resetLineHeld dt) : HeldEffect s (exec c s) := by
  cases c
  case hardReset dt k => exact absurd rfl (hard dt k)
  case resetLineHeld dt => exact absurd rfl (line dt)
  case linePulse dt e =>
    exact .pin dt (fun t => t.setLineLevel e) (fun t => t.lineEdge e) (s.pinsMoved_modTap _ _ fun _ => rfl)
  case framePulse dt e =>
    exact .pin dt (fun t => t.setFrameLevel e) (fun t => t.frameEdge e) (s.pinsMoved_modTap _ _ fun _ => rfl)
  case panelChange dt n asserted =>
    exact .pin dt (fun t => t.pinPanel n asserted) (fun t => t.panelChange n asserted) ⟨fun _ => rfl, rfl⟩
  case coinSwitchChange dt x closed =>
    refine .pin dt (fun t => t.pinCoin x closed) (fun t => t.coinSwitch x closed) ⟨fun _ => rfl, ?_⟩
    cases x <;> rfl
  case lockoutSenseChange dt i d high =>
    exact .pin dt (fun t => t.setSense i d high) (fun t => t.senseChange i d high) ⟨fun _ => rfl, rfl⟩
  all_goals unfold exec
  case status | notify | restart | setOutput | setCabinet | setSlot | setSlotDisable | setMap | setTrim | setChord | slotWork
      | abortWork | select | cancel | capture | creditAdd | creditClear | querySlot | queryOutput | queryCoin | queryTest
      | clearDip | unknownKind => exact request_heldEffect ..
  all_goals exact .live ..

/-- A command other than a reset, of a part held in reset, moves pins at most. -/
theorem exec_of_reset {c : Instr} {s t : State} (held : s.link.inReset = true) (hard : ∀ dt k, c ≠ .hardReset dt k)
    (line : ∀ dt, c ≠ .resetLineHeld dt) (h : exec c s = .next t) : s.PinsMoved t := by
  have effect := exec_heldEffect c s hard line
  rw [h] at effect
  generalize taken : (Host.Outcome.next t : Outcome) = o at effect
  cases effect with
  | live dt effect =>
    cases taken.trans (live_of_reset dt effect s held)
    exact s.pinsMoved_advance dt
  | pin dt pin effect moves =>
    have moved : livePin dt pin effect s = .next (pin (s.advance dt)) := by simp [livePin, held]
    cases taken.trans moved
    exact moves

/-! ## Hard reset (R181) -/

/-- START-UP alone in the queue of an idle line begins. -/
theorem State.beginMessage_startUp {s : State} {c : Byte} (idle : s.link.sending = none)
    (queue : s.link.txq = [Message.startUp c]) (held : s.link.held = []) (waiting : s.link.waiting = none) :
    s.beginMessage = s.modLink fun l => { l with sending := some (Message.startUp c), txq := [] } :=
  s.beginMessage_idle _ _ idle queue held waiting

theorem exec_hardReset (dt : Nat) (cause : ResetCause) (s : State) :
    exec (.hardReset dt cause) s = .next (((s.advance dt).hardReset cause).modLink fun l =>
      { l with sending := some (Message.startUp (Sys2Proof.Machine.ResetCause.startCause cause).code), txq := [] }) := by
  show Host.Outcome.next ((s.advance dt).hardReset cause).finish = _
  rw [State.finish_of_no_task _ rfl]
  exact congrArg _ (State.beginMessage_startUp rfl rfl rfl rfl)

/-- A chord taken afresh: it times from this moment exactly when all its lines are held (R130). -/
theorem Controls.freshChord_spec (c : Controls) (now : Nat) :
    ∃ chord chordEnd, c.freshChord now = { c with chord := chord, chordEnd := chordEnd } ∧
      ((∀ n ∈ c.chordLines, c.panel.getLsbD n.val = true) →
        chord = .timing ∧ chordEnd = some (now + c.holdTime * 48000)) ∧
      ((∃ n ∈ c.chordLines, c.panel.getLsbD n.val = false) → chord = .idle ∧ chordEnd = none) := by
  by_cases held : ∀ n ∈ c.chordLines, c.panel.getLsbD n.val = true
  · refine ⟨_, _, Controls.freshChord_of_held held now, fun _ => ⟨rfl, rfl⟩, fun ⟨n, member, released⟩ => ?_⟩
    cases (held n member).symm.trans released
  · have released : ∃ n ∈ c.chordLines, c.panel.getLsbD n.val = false := by simpa using held
    exact ⟨_, _, Controls.freshChord_of_open released now, fun all => absurd all held, fun _ => ⟨rfl, rfl⟩⟩

/-- Settles O10. -/
theorem hardResetAndResetLine : Obligations.HardResetAndResetLine := by
  refine ⟨fun dt cause s => ?_, fun dt s => ⟨_, rfl, fun i => ⟨?_, ?_, ?_⟩, ?_⟩,
    fun c s t held hard line h => exec_of_reset held hard line h⟩
  · obtain ⟨chord, chordEnd, fresh, timing, idle⟩ := Controls.freshChord_spec
      { State.reset.controls with panel := s.controls.panel } (s.now + dt)
    refine ⟨_, exec_hardReset dt cause s, rfl, rfl, rfl, State.reset_slot, State.reset_queue, ?_, ?_, rfl,
      rfl, ?_, rfl, rfl, rfl, ⟨chord, chordEnd, fresh, ?_, ?_⟩, rfl, rfl, rfl, rfl, ?_, ?_, rfl, rfl, rfl, rfl, rfl, ?_⟩
    · exact fun i => Vector.getElem_map Tap.fresh i.isLt
    · exact fun k => Vector.getElem_replicate k.isLt
    · have deadline : (s.advance dt).after 500 = s.now + dt + 24000000 := by
        rw [State.after_eq, State.advance_now]
      exact deadline
    · rintro ⟨ten, twentyOne⟩
      have moment : some (s.now + dt + 2000 * 48000) = some (s.now + dt + 96000000) := congrArg some (by omega)
      refine (timing fun n member => ?_).imp_right fun e => e.trans moment
      rcases List.mem_pair.mp member with rfl | rfl
      · exact ten
      · exact twentyOne
    · rintro (ten | twentyOne)
      · exact idle ⟨10, List.mem_pair.mpr (.inl rfl), ten⟩
      · exact idle ⟨21, List.mem_pair.mpr (.inr rfl), twentyOne⟩
    · intro m
      cases m <;> exact ⟨rfl, rfl⟩
    · intro x
      cases x <;> rfl
    · cases cause
      · exact ⟨0, fun _ => rfl, nofun, rfl, rfl⟩
      · exact ⟨1, nofun, fun _ => rfl, rfl, rfl⟩
  · exact mapEight_getElem (fun sl : Slot => { sl with power := false }) s.slots i
  · exact if_pos rfl
  · have off : ((s.advance dt).holdReset.slot i).power = false :=
      (congrArg Slot.power (mapEight_getElem (fun sl : Slot => { sl with power := false }) s.slots i) :)
    have park : (s.advance dt).holdReset.driveMode i = .park := if_pos rfl
    unfold State.connector
    rw [off, park]
    rfl
  · rfl

end Sys2Proof.Machine

/-! A RESTART as every block takes it (R24, R131, R151, R171, R180). -/

namespace Sys2Proof.Machine

/-! ## The slots (R24) -/

section
variable {sl : Slot} {now : Nat}

theorem Slot.restarted_of_running {su : Setup} (setup : sl.setup = some su)
    (runs : sl.state ∈ [SlotState.starting, .warm, .probing, .ready, .active] ∨
      (sl.state = .fault ∨ sl.state = .testing) ∧ sl.power = true) :
    sl.restarted now =
      { sl.restartedIn .resting (some (now + su.profile.rest * 48000)) with power := false } := by
  have off : sl.restartedOff now = { sl.restartedIn .resting (some (now + su.profile.rest * 48000)) with power := false } := by
    unfold Slot.restartedOff
    rw [setup]
    rfl
  rw [← off]
  unfold Slot.restarted
  rcases runs with listed | ⟨state | state, power⟩
  · simp only [List.mem_cons, List.not_mem_nil, or_false] at listed
    rcases listed with state | state | state | state | state <;> rw [state]
  · rw [state, power]
    rfl
  · rw [state, power]
    rfl

theorem Slot.restarted_of_unconfigured (state : sl.state = .unconfigured) :
    sl.restarted now = sl.restartedIn .unconfigured none := by
  simp [Slot.restarted, state]

theorem Slot.restarted_of_off (state : sl.state = .off ∨ sl.state = .waiting) :
    sl.restarted now = sl.restartedIn .off none := by
  rcases state with state | state <;> simp [Slot.restarted, state]

theorem Slot.restarted_of_idle (state : sl.state = .resting ∨ sl.state = .fault ∧ sl.power = false) :
    sl.restarted now = sl.restartedIn sl.state sl.rest := by
  rcases state with state | ⟨state, power⟩
  · simp [Slot.restarted, state]
  · simp [Slot.restarted, state, power]

theorem Slot.restarted_of_tested {st : SlotState} (state : sl.state = .testing) (power : sl.power = false)
    (back : sl.testReturn = some st) :
    sl.restarted now =
      { sl.restartedIn st sl.rest with lastFault := if sl.faultAtEnd = true then some .syncLost else sl.lastFault } := by
  simp [Slot.restarted, state, power, back]
  split <;> rfl

end

/-! ## The Coin Unit (R151) -/

theorem Meter.restarted_eq (r : Meter) (now : Nat) (set : CoinSettings) {left : Nat}
    (counts : (if r.phase = .off ∨ r.phase = .on ∧ r.ends ≤ now then r.pending - 1 else r.pending) = left) :
    r.restarted now set =
      if left = 0 then { r with pending := 0, phase := .idle }
      else { pending := left, phase := .on, ends := now + set.meterOn * 48000, offTime := set.meterOff } := by
  have counted : r.pending - bit (decide (r.phase = .off) || (decide (r.phase = .on) && decide (r.ends ≤ now))) = left := by
    rw [← counts]
    by_cases done : r.phase = .off ∨ r.phase = .on ∧ r.ends ≤ now
    · rw [if_pos done]
      simp [bit, done]
    · rw [if_neg done]
      simp [bit, done]
  unfold Meter.restarted Meter.wake
  dsimp only
  rw [counted]
  by_cases none : left = 0
  · rw [if_neg (by simp [none]), if_pos none, none]
  · rw [if_pos ⟨rfl, Nat.pos_of_ne_zero none⟩, if_neg none]
    rfl

theorem CoinUnit.countRestartJam_eq (c : CoinUnit) (x : CoinInput) :
    ∃ a b, c.countRestartJam x = { c with totals := { c.totals with jamsA := a, jamsB := b } } := by
  unfold CoinUnit.countRestartJam
  dsimp only
  split
  · cases x <;> exact ⟨_, _, rfl⟩
  · exact ⟨_, _, rfl⟩

theorem CoinUnit.restarted_eq (c : CoinUnit) (now : Nat) :
    ∃ a b, c.restarted now =
      { c with
        totals := { c.totals with jamsA := a, jamsB := b }
        inA := c.inA.restarted, inB := c.inB.restarted, pulse := none
        meter1 := c.meter1.restarted now c.settings, meter2 := c.meter2.restarted now c.settings } := by
  obtain ⟨a, b, first⟩ := c.countRestartJam_eq .a
  obtain ⟨a', b', both⟩ := (c.countRestartJam .a).countRestartJam_eq .b
  refine ⟨a', b', ?_⟩
  unfold CoinUnit.restarted
  dsimp only
  rw [both, first]

/-! ## The link (R180) -/

/-- START-UP at the head of the transmit queue, followed by COIN notices only. -/
def StartsUp (q : List Message) : Prop :=
  ∃ rest, q = Message.startUp 2 :: rest ∧ ∀ m ∈ rest, m.cls = .event .coin

theorem StartsUp.putNotice {q : List Message} (h : StartsUp q) {m : Message} (coin : m.cls = .event .coin) :
    StartsUp (putNotice .coin m q) := by
  obtain ⟨rest, rfl, coins⟩ := h
  unfold Sys2Proof.Machine.putNotice
  split
  · refine ⟨_, rfl, fun x member => ?_⟩
    obtain ⟨y, old, rfl⟩ := List.mem_map.mp member
    split
    · exact coin
    · exact coins y old
  · refine ⟨rest ++ [m], rfl, fun x member => ?_⟩
    rcases List.mem_append.mp member with old | new
    · exact coins x old
    · cases List.mem_singleton.mp new
      exact coin

theorem State.restartJamNotice_eq {s : State} (h : StartsUp s.link.txq) (x : CoinInput) :
    ∃ q, StartsUp q ∧ s.restartJamNotice x = { s with link := { s.link with txq := q } } := by
  unfold State.restartJamNotice State.coinNotice State.notice
  split
  · split
    · exact ⟨_, h.putNotice rfl, rfl⟩
    · exact ⟨_, h, rfl⟩
  · exact ⟨_, h, rfl⟩

/-- The part after a RESTART, all but the link. -/
def State.restartedBlocks (s : State) (l : Link) : State :=
  { s with
    slots := mapEight (fun sl => Slot.restarted sl s.now) s.slots
    supply := { permit := none, waitList := [], dip := false, level := s.supply.level }
    queues := Vector.replicate 8 Queue.reset
    engines := Vector.replicate 2 none
    probeList := []
    out := s.out.restarted s.now
    chg := none
    controls := s.controls.restarted s.now
    coin := s.coin.restarted s.now
    sampler := Sampler.reset
    tester := s.tester.restarted
    link := l
    todo := [] }

theorem State.restarted_eq (s : State) :
    ∃ q, StartsUp q ∧ s.restarted = s.restartedBlocks { s.link.restarted with txq := q } := by
  obtain ⟨q, first, e⟩ := State.restartJamNotice_eq (s := s.restartedBlocks s.link.restarted) ⟨[], rfl, nofun⟩ .a
  obtain ⟨q', both, e'⟩ := State.restartJamNotice_eq (s := (s.restartedBlocks s.link.restarted).restartJamNotice .a)
    (by rw [e]; exact first) .b
  exact ⟨q', both, e'.trans (by rw [e]; rfl)⟩

/-- A RESTART taken, with START-UP on the line. -/
theorem exec_restartTaken {dt : Nat} {s : State} (live : s.link.inReset = false) (sent : s.link.restartSent = true) :
    ∃ q : List Message, (∀ m ∈ q, m.cls = .event .coin) ∧ exec (.restartTaken dt) s = .next ((s.advance dt).restartedBlocks
      { s.link.restarted with txq := q, sending := some (Message.startUp 2) }) := by
  obtain ⟨q, ⟨rest, rfl, coins⟩, restarted⟩ := (s.advance dt).restarted_eq
  refine ⟨rest, coins, ?_⟩
  have taken : (if (s.advance dt).link.restartSent then (s.advance dt).restarted else s.advance dt) =
      (s.advance dt).restartedBlocks { s.link.restarted with txq := Message.startUp 2 :: rest } :=
    (if_pos sent).trans restarted
  unfold exec execRestartTaken Sys2Proof.Machine.live
  dsimp only
  rw [if_neg (by simp [live]), taken, State.finish_of_no_task _ rfl, State.beginMessage_idle _ _ _ rfl rfl rfl rfl]
  rfl

/-- Settles O11. -/
theorem restartTakenByEveryBlock : Obligations.RestartTakenByEveryBlock := by
  refine fun dt s live => ⟨fun unsent todo => ?_, fun sent => ?_, fun sent => ?_⟩
  · have passes : (if (s.advance dt).link.restartSent then (s.advance dt).restarted else s.advance dt) = s.advance dt :=
      if_neg (by simp [unsent])
    unfold exec execRestartTaken Sys2Proof.Machine.live
    dsimp only
    rw [if_neg (by simp [live]), passes, State.finish_of_no_task _ (by exact todo)]
  · have same : (s.advance dt).link.restartSent = true := sent
    unfold exec execRestartTaken execMessageSent Sys2Proof.Machine.live
    dsimp only
    rw [same]
    rfl
  · obtain ⟨q, coins, next⟩ := exec_restartTaken (dt := dt) live sent
    obtain ⟨chord, chordEnd, fresh, timing, idle⟩ := Controls.freshChord_spec { s.controls with capture := false } (s.now + dt)
    obtain ⟨a, b, coin⟩ := s.coin.restarted_eq (s.now + dt)
    have slot (i : SlotNo) (l : Link) : ((s.advance dt).restartedBlocks l).slot i = (s.slot i).restarted (s.now + dt) :=
      mapEight_getElem (fun sl => Slot.restarted sl (s.now + dt)) s.slots i
    have coin' (l : Link) : ((s.advance dt).restartedBlocks l).coin = _ := coin
    refine ⟨_, next, rfl, rfl, rfl, fun i => ⟨fun su setup runs => ?_, fun state => ?_, fun state => ?_, fun state => ?_,
      fun st state power back => ?_⟩, fun i => ?_, fun k => ?_, rfl, rfl, rfl, rfl, rfl, rfl, rfl,
      ⟨chord, chordEnd, fresh, timing, idle⟩, ?_, ?_, ?_, ?_, fun x => ?_, fun m => ?_, rfl, rfl, rfl, rfl, rfl, rfl,
      fun idle => ?_, fun runs => ?_, ?_, coins⟩
    · rw [slot]
      exact Slot.restarted_of_running setup runs
    · rw [slot, Slot.restarted_of_unconfigured state, Slot.restartedIn, state]
    · rw [slot]
      exact Slot.restarted_of_off state
    · rw [slot]
      exact Slot.restarted_of_idle state
    · rw [slot]
      exact Slot.restarted_of_tested state power back
    · exact Vector.getElem_replicate i.isLt
    · exact Vector.getElem_replicate k.isLt
    · rw [coin']
    · rw [coin']
    · rw [coin']
    · rw [coin']
    · rw [coin']
      cases x <;> rfl
    · rw [coin']
      cases m
      · exact Meter.restarted_eq _ _ _ rfl
      · exact Meter.restarted_eq _ _ _ rfl
    · exact (if_neg (by simp [idle]))
    · exact (if_pos (by simpa [Option.isSome_iff_ne_none] using runs))
    · rfl

end Sys2Proof.Machine

/-! A byte of the line reaches the framer (R173, R174, R175). -/

namespace Sys2Proof.Machine

/-! ## Where the framer stops -/

theorem drain_of_stopped {s : State} (stopped : s.link.taking = false) (n : Nat) : drain n s = s := by
  cases n with
  | zero => rfl
  | succ n =>
    unfold drain
    rw [stopped]
    rfl

theorem drain_of_empty {s : State} (empty : s.link.rx = []) (n : Nat) : drain n s = s := by
  cases n with
  | zero => rfl
  | succ n =>
    unfold drain
    rw [empty]
    split <;> rfl

/-! ## One byte of the buffer -/

section
variable {s : State} {b : RxByte} {n : Nat}

theorem drain_of_goes {f : Framer} (taking : s.link.taking = true) (rx : s.link.rx = [b])
    (step : s.link.framer.step b = .goes f) :
    drain (n + 1) s = s.modLink fun l => { l with rx := [], framer := f } := by
  unfold drain
  rw [if_pos taking, rx]
  dsimp only
  rw [step]
  exact drain_of_empty rfl n

theorem drain_of_bad {f : Framer} (taking : s.link.taking = true) (rx : s.link.rx = [b])
    (step : s.link.framer.step b = .bad f) :
    drain (n + 1) s =
      s.modLink fun l => { l with rx := [], framer := f, badFrames := min 65535 (l.badFrames + 1) } := by
  unfold drain
  rw [if_pos taking, rx]
  dsimp only
  rw [step]
  exact drain_of_empty rfl n

/-- The request that a byte completes leaves the buffer empty, and the framer stops. -/
theorem drain_of_good {r : Request} (taking : s.link.taking = true) (rx : s.link.rx = [b])
    (step : s.link.framer.step b = .good r) :
    drain (n + 1) s = (s.modLink fun l => { l with rx := [], framer := .hunt }).offer r := by
  unfold drain
  rw [if_pos taking, rx]
  dsimp only
  rw [step]
  exact drain_of_empty (Keeps.refl (s.modLink fun l => { l with rx := [], framer := .hunt })).offer.rx n

end

/-! ## RECEIVE_BYTE -/

theorem Link.keep_of_room {l : Link} (room : l.rx.length < 256) (b : Byte) (gap : Bool) :
    l.keep b gap = { l with rx := l.rx ++ [{ byte := b, gap := gap, loss := l.lossPending }], lossPending := false } :=
  if_neg (Nat.not_le.mpr room)

theorem Link.keep_of_full {l : Link} (full : 256 ≤ l.rx.length) (b : Byte) (gap : Bool) :
    l.keep b gap = { l with lossPending := true } := if_pos full

theorem State.byteArrives_kept {s : State} (room : s.link.rx.length < 256) (b : Byte) {gap : Bool}
    (after : gapBefore s.link.lastByteAt s.now = gap) :
    s.byteArrives b =
      { s with
        link := { s.link with
          rx := s.link.rx ++ [{ byte := b, gap := gap, loss := s.link.lossPending }], lossPending := false
          lastByteAt := some s.now } } := by
  subst after
  exact congrArg (fun l : Link => { s with link := { l with lastByteAt := some s.now } })
    (Link.keep_of_room room b (gapBefore s.link.lastByteAt s.now))

theorem State.byteArrives_lost {s : State} (full : 256 ≤ s.link.rx.length) (b : Byte) :
    s.byteArrives b = { s with link := { s.link with lossPending := true, lastByteAt := some s.now } } := by
  exact congrArg (fun l : Link => { s with link := { l with lastByteAt := some s.now } })
    (Link.keep_of_full full b (gapBefore s.link.lastByteAt s.now))

section
variable {dt : Nat} {b : Byte} {s : State}

theorem exec_receiveByte (h : s.Between) {t : State} (framed : ((s.advance dt).byteArrives b).drainAll = t) :
    exec (.receiveByte dt b) s = .next t.finish := by
  subst framed
  unfold exec execReceiveByte
  exact live_of_between _ _ _ h

theorem exec_receiveByte_at_once (h : s.Between) {t : State} (framed : ((s.advance dt).byteArrives b).drainAll = t)
    (todo : t.todo = []) : exec (.receiveByte dt b) s = .next t.beginMessage := by
  rw [exec_receiveByte h framed, State.finish_of_no_task t todo]

/-- What RECEIVE_BYTE does with a byte, whether it follows a gap or not. -/
theorem exec_receiveByte_spec (h : s.Between) {gap : Bool} (after : gapBefore s.link.lastByteAt (s.now + dt) = gap) :
    let u := s.advance dt
    let l := s.link
    let byte : RxByte := { byte := b, gap := gap, loss := l.lossPending }
    let taken : Link := { l with lossPending := false, lastByteAt := some u.now }
    (l.taking = false → l.rx.length < 256 →
      exec (.receiveByte dt b) s = .next (State.beginMessage { u with link := { taken with rx := l.rx ++ [byte] } })) ∧
    (l.taking = false → 256 ≤ l.rx.length →
      exec (.receiveByte dt b) s = .next
        (State.beginMessage { u with link := { l with lossPending := true, lastByteAt := some u.now } })) ∧
    (l.taking = true → l.rx = [] →
      (∀ f, l.framer.step byte = .goes f →
        exec (.receiveByte dt b) s = .next (State.beginMessage { u with link := { taken with framer := f } })) ∧
      (∀ f, l.framer.step byte = .bad f →
        exec (.receiveByte dt b) s = .next (State.beginMessage
          { u with link := { taken with framer := f, badFrames := min 65535 (l.badFrames + 1) } })) ∧
      ∀ r, l.framer.step byte = .good r →
        exec (.receiveByte dt b) s = .next (State.offer { u with link := { taken with framer := .hunt } } r).finish) := by
  refine ⟨fun stopped room => ?_, fun stopped full => ?_, fun taking empty => ?_⟩
  · refine exec_receiveByte_at_once h ?_ h.1
    rw [State.byteArrives_kept (s := s.advance dt) room b after]
    exact drain_of_stopped (by exact stopped) _
  · refine exec_receiveByte_at_once h ?_ h.1
    rw [State.byteArrives_lost (s := s.advance dt) full b]
    exact drain_of_stopped (by exact stopped) _
  · have arrived := State.byteArrives_kept (s := s.advance dt) (by simp [empty]) b after
    rw [show (s.advance dt).link.rx = [] from empty, List.nil_append] at arrived
    rw [empty]
    refine ⟨fun f step => ?_, fun f step => ?_, fun r step => ?_⟩
    · exact exec_receiveByte_at_once h (by rw [arrived]; exact drain_of_goes taking rfl step) h.1
    · exact exec_receiveByte_at_once h (by rw [arrived]; exact drain_of_bad taking rfl step) h.1
    · exact exec_receiveByte h (by rw [arrived]; exact drain_of_good taking rfl step)

end

/-- Settles O15. -/
theorem receiveByteReachesFramer : Obligations.ReceiveByteReachesFramer := by
  intro dt b s h u l gap
  have after : gapBefore s.link.lastByteAt (s.now + dt) = gap := by
    simp only [gap, l, u]
    cases s.link.lastByteAt <;> rfl
  obtain ⟨kept, lost, taken⟩ := exec_receiveByte_spec (b := b) h after
  refine ⟨kept, lost, fun taking empty => ?_⟩
  obtain ⟨goes, bad, good⟩ := taken taking empty
  dsimp only
  split
  next f step => exact goes f step
  next f step => exact bad f step
  next r step => exact good r step

end Sys2Proof.Machine
